-- ==== Sys2Proof/Word.lean ====
section
/-! DEFINITION. Word: the machine's data types and their plainest arithmetic (00_scope.md R5, R8, R9). -/

namespace Sys2Proof

/-- A word: 32 bits (BitsPerWord, R5). -/
abbrev Word := BitVec 32
/-- A double word: 64 bits. -/
abbrev Dword := BitVec 64
/-- A byte: 8 bits (BitsPerByte, R5). -/
abbrev Byte := BitVec 8
/-- A sixteen-bit object. -/
abbrev Half := BitVec 16

/-- `MostNeg` of R5, the lowest address. -/
abbrev mostNeg : Word := 0x80000000#32
/-- `MostPos` of R5, the highest address. -/
abbrev mostPos : Word := 0x7FFFFFFF#32

/-- `p @ x` of R11 and R13: the address `x` words from `p`, modulo 2^32. -/
abbrev atw (p : Word) (x : Int) : Word := p + BitVec.ofInt 32 (4 * x)

/-- `p @ n` for a word offset `n` held in a register or an operand (R11). -/
abbrev atn (p n : Word) : Word := p + 4#32 * n

/-- A boolean result (R6: false is 0, true is 1). -/
abbrev boolWord (b : Bool) : Word := if b then 1#32 else 0#32

/-- `a AFTER b` of R9. -/
abbrev after (a b : Word) : Bool := (0#32).slt (a - b)

end Sys2Proof
end

