-- ==== Sys2Proof/Config.lean ====
section
/-! DEFINITION. Config: what an implementation fixes and the free values (00_scope.md R7, R14;
92_eei_decisions.md; 93_implementation_defined.md). Every constant here is opaque: it has no body, so
nothing proved can depend on its value. -/

namespace Sys2Proof.Config

/-- A draw of R14: the value of a register or location the spec leaves undefined, by the number of the
draw (`State.draws` counts them). -/
opaque freeWord : Nat → Word

/-- A draw of 64 bits (an undefined floating-point register, R14). -/
opaque freeDword : Nat → Dword

/-- A draw of one bit. -/
opaque freeBit : Nat → Bool

/-- A draw of a natural number of any size (45_floating_point.md R518: the multiple an interrupted `fprem` has
taken off). -/
opaque freeNat : Nat → Nat

/-- A draw of a byte of memory whose content the spec leaves undefined (20_memory.md R108, D34), by the
draw and the place in the block. -/
opaque freeByte : Nat → Nat → Byte

/-- Which of the values a code byte has held since the last taken transfer of control a fetch finds
(70_reset_and_hazards.md R805), by the draw and the address. -/
opaque staleFetch : Nat → Nat → Nat

/-- DEVICE_ID (D6): which member of the group 300 .. 319 the part returns (log 56, DESIGN CHOICE). -/
opaque deviceIdIndex : Fin 20

/-- DEVICE_REVISION (D6): contents of configuration register #1002. -/
opaque deviceRevision : BitVec 16

/-- PROC_CLOCK_MHZ (D6): the ProcSpeedSelect pins, 0 to 4 for 30, 35, 40, 45, 50 MHz. No rule's effect depends on it
(log 58, DESIGN CHOICE). -/
opaque procSpeedSelect : Fin 5

/-- PROC_CLOCK_MHZ in megahertz (00_scope.md R7). -/
def procClockMhz : Nat := 30 + 5 * procSpeedSelect.val

/-- The words the three reason codes that are no trap reasons have where they can (60_exceptions.md R740: their numbers
are not given). -/
opaque reasonWord : Nat → Word

/-- A reason code that is no trap reason (those are below 32) and none of two others: the `i`-th word where it is so
(log 32, DESIGN CHOICE). -/
def reasonCode (i : Nat) (x y : Word) : Word :=
  let ok (w : Word) : Bool := 32#32 ≤ w && w != x && w != y
  if ok (reasonWord i) then reasonWord i else if ok 32#32 then 32#32 else if ok 33#32 then 33#32 else 34#32

/-- The reason code 'stopped' (R740). -/
def reasonStopped : Word := reasonCode 0 0#32 0#32
/-- The reason code 'halted' (R740, R742). -/
def reasonHalted : Word := reasonCode 1 reasonStopped 0#32
/-- The reason code 'external memory error' (R740, R742). -/
def reasonExternalMemory : Word := reasonCode 2 reasonStopped reasonHalted

/-- PMI_BANKS as far as it is open: whether a store to the un-remapped boot bank is signalled as an error
(20_memory.md R98, 93 section 1.2). -/
opaque bootStoreErrors : Bool

/-- PMI_BANKS (D3): whether the memory the board has attached to a programmable bank keeps a write at an address: not
where it is ROM, where nothing is attached, or beyond its size (log 10, DESIGN CHOICE). -/
opaque bankStores : Nat → Word → Bool

/-- DEVICE_BANK (20_memory.md R97): which programmable banks are device banks. -/
opaque deviceBank : Nat → Bool

/-- NULLHDR_CLEARED_BY (D54): true where `sethdr` clears the null-header state, false where `writehdr` does
(log 55, DESIGN CHOICE). -/
opaque nullClearedBySethdr : Bool

/-- STANDALONE_RESET_LEVEL (D58): true for level 1, false for level 2. -/
opaque standAloneLevelOne : Bool

/-- What Xreg holds while an interruptible instruction is interrupted (91_not_in_source.md N40: the encoding of the
resume data is not given; log 29, DESIGN CHOICE). -/
opaque resumeMark : Word

/-- Whether the base (true) or the limit (false) of a byte-stream message is in pw.Link
(43_channels_alt.md R387: not stated which). -/
opaque byteStreamBaseInLink : Bool

/-- The words of a virtual link control block that `initvlcb` has not set up (47_vcp_config.md R641), by link. -/
opaque unsetVlcbWord : Nat → Nat → Word

/-- The numeric value of a null buffer pointer (47_vcp_config.md R641, N20). -/
opaque nullBuffer : Word

/-- The order of the lines of the main cache in the numbers by which `fdcl` and `icl` know them, a line being taken as 4
times its row and its bank (20_memory.md R105: the mapping is given by a lost figure). -/
opaque linePlace : Nat → Nat

/-- DeviceId (R6): a value in the range 300 .. 319. -/
def deviceId : Word := BitVec.ofNat 32 (300 + deviceIdIndex.val)

end Sys2Proof.Config
end

