-- ==== Sys2Proof/Machine/Memory.lean ====
section
/-! DEFINITION. Memory: the bytes the on-chip agents see, as one canonical list (20_memory.md R80 to R82). -/

namespace Sys2Proof.Machine

/-- Memory as (address, byte) pairs: addresses strictly rising, no byte 0 listed (an unlisted address reads
as 0, log 5, DESIGN CHOICE). -/
abbrev Memory := List Host.Cell

/-- What an unlisted address reads as. -/
def unlistedByte : Byte := 0#8

/-- The byte at an address. -/
def Memory.read : Memory → Nat → Byte
  | [], _ => unlistedByte
  | (k, b) :: rest, a => if k = a then b else Memory.read rest a

/-- An entry for a byte, none where an unlisted address reads so. -/
def cellFor (a : Nat) (v : Byte) : List Host.Cell := if v = unlistedByte then [] else [(a, v)]

/-- Memory with one byte written, in canonical form. -/
def Memory.write : Memory → Nat → Byte → Memory
  | [], a, v => cellFor a v
  | (k, b) :: rest, a, v =>
    if a < k then cellFor a v ++ (k, b) :: rest
    else if a = k then cellFor a v ++ rest
    else (k, b) :: Memory.write rest a v

/-- Every entry is above `lo`, in strictly rising order, below 2^32, and lists no unlisted byte. -/
def Memory.wfFrom : Nat → Memory → Bool
  | _, [] => true
  | lo, (k, b) :: rest => decide (lo ≤ k) && decide (k < 2 ^ 32) && b != unlistedByte && Memory.wfFrom (k + 1) rest

/-- The canonical form. -/
def Memory.wf (m : Memory) : Bool := Memory.wfFrom 0 m

/-- The word at a word-aligned address, little-endian (R81). -/
def Memory.word (m : Memory) (a : Word) : Word :=
  m.read (a + 3).toNat ++ m.read (a + 2).toNat ++ m.read (a + 1).toNat ++ m.read a.toNat

/-- The sixteen-bit object at an even address. -/
def Memory.half (m : Memory) (a : Word) : Half := m.read (a + 1).toNat ++ m.read a.toNat

/-- Byte `i` of a word, byte 0 the least significant. -/
def byteOf (v : Word) (i : Nat) : Byte := (v >>> (8 * i)).setWidth 8

/-- Memory with a word written (R81). -/
def Memory.writeWord (m : Memory) (a v : Word) : Memory :=
  (((m.write a.toNat (byteOf v 0)).write (a + 1).toNat (byteOf v 1)).write (a + 2).toNat (byteOf v 2)).write
    (a + 3).toNat (byteOf v 3)

/-- Memory with a sixteen-bit object written. -/
def Memory.writeHalf (m : Memory) (a : Word) (v : Half) : Memory :=
  (m.write a.toNat (v.setWidth 8)).write (a + 1).toNat ((v >>> 8).setWidth 8)

/-- Memory with successive bytes written from an address, modulo 2^32. -/
def Memory.writeBytes (m : Memory) (a : Word) : List Byte → Memory
  | [] => m
  | v :: vs => Memory.writeBytes (m.write a.toNat v) (a + 1) vs

/-- Successive bytes read from an address, modulo 2^32. -/
def Memory.bytes (m : Memory) (a : Word) : Nat → List Byte
  | 0 => []
  | n + 1 => m.read a.toNat :: Memory.bytes m (a + 1) n

/-- Memory with `n` bytes from `a` set by a function of their place. -/
def Memory.fill (m : Memory) (a : Word) (f : Nat → Byte) : Nat → Memory
  | 0 => m
  | n + 1 => (Memory.fill m a f n).write (a + BitVec.ofNat 32 n).toNat (f n)

end Sys2Proof.Machine
end

