-- ==== Sys2Proof/Machine/Types.lean ====
section
/-! DEFINITION. Types: the records State is made of (10_state.md, 43_channels_alt.md R385,
47_vcp_config.md R640, R641, R690). -/

namespace Sys2Proof.Machine

/-- Four like things: the four links, banks, event pairs (R5: N_LINKS, N_EVENTS, PMI_BANKS are 4). -/
structure Quad (α : Type) where
  q0 : α
  q1 : α
  q2 : α
  q3 : α
  deriving DecidableEq, Repr

/-- The `i`-th of four (`i` modulo 4). -/
def Quad.get {α : Type} (q : Quad α) (i : Nat) : α :=
  match i % 4 with
  | 0 => q.q0
  | 1 => q.q1
  | 2 => q.q2
  | _ => q.q3

/-- Replace the `i`-th of four (`i` modulo 4). -/
def Quad.set {α : Type} (q : Quad α) (i : Nat) (x : α) : Quad α :=
  match i % 4 with
  | 0 => { q with q0 := x }
  | 1 => { q with q1 := x }
  | 2 => { q with q2 := x }
  | _ => { q with q3 := x }

/-- Four copies of one thing. -/
def Quad.all {α : Type} (x : α) : Quad α := ⟨x, x, x, x⟩

/-- One entry of the floating-point stack: its type tag and its bits, a single in the low word
(45_floating_point.md R512). -/
structure FpEntry where
  dbl : Bool
  bits : Dword
  deriving DecidableEq, Repr

/-- The state registers (10_state.md R20 and R32), and whether Ereg and Xreg hold live resume data
(R37 (f)). FPstatusReg is `round` and the tags of the three entries (45_floating_point.md R512). -/
structure Regs where
  status : Word
  wdesc : Word
  iptr : Word
  areg : Word
  breg : Word
  creg : Word
  th : Word
  round : BitVec 2
  fpA : FpEntry
  fpB : FpEntry
  fpC : FpEntry
  bm0 : Word
  bm1 : Word
  bm2 : Word
  wl : Word
  wu : Word
  ereg : Word
  xreg : Word
  eptr : Word
  region : Quad Word
  pstate : Word
  wstub : Word
  midInstr : Bool
  deriving DecidableEq, Repr

/-- The scheduler and timer registers of one priority (R35). -/
structure Sched where
  fptr : Word
  bptr : Word
  clock : Word
  tptr : Word
  tnext : Word
  deriving DecidableEq, Repr

/-- A valid line of the main cache (20_memory.md R105): its row among the 256 of its bank, none for a line just fetched
that the refill engine has not put in its place yet (log 15, DESIGN CHOICE), the block it holds (the address over 16: the
tag, and in bits 1..0 the bank), the dirty bit of each of its four words, and what external memory holds of them. What the
line itself holds is what `State.mem` says. -/
structure CacheLine where
  row : Option Nat
  block : Nat
  dirty : Quad Bool
  ext : Quad Word
  deriving DecidableEq, Repr

/-- The main cache (R105 to R108): its valid lines, the rows locked by DoAllocate with the blocks they are locked
to, and the RamSize in force. -/
structure Cache where
  lines : List CacheLine
  locked : List (Nat × Nat)
  ramSize : BitVec 2
  deriving DecidableEq, Repr

/-- The workspace cache (R104): the valid bit of each of the 32 slots, and values a word held since its
slot was validated, where another agent has written the word since. -/
structure WsCache where
  valid : BitVec 32
  stale : List (Nat × Word)
  deriving DecidableEq, Repr

/-- One DS-Link's configuration registers and link engine (10_state.md R70, R71), with the VCP's registers
for a data link (R65). -/
structure Link where
  mode : BitVec 5
  linkError : Bool
  started : Bool
  resetOutputDone : Bool
  parityError : Bool
  discError : Bool
  tokenReceived : Bool
  startBit : Bool
  writeLock : Bool
  vcpMode : BitVec 3
  maxHeader : Half
  minHeader : Half
  hdrOffset : Half
  deriving DecidableEq, Repr

/-- The registers of one programmable bank (R63) and its strobe registers (R72). -/
structure Bank where
  address : Word
  mask : Word
  formatControl : Word
  rasBits : Word
  rasStrobe : Word
  casStrobe : Word
  progStrobe : Word
  writeStrobe : Word
  timingControl : Word
  deriving DecidableEq, Repr

/-- The configuration registers (R62 to R73) other than those of the links; `activeBanks` is what the PMI took
from the bank registers at the last DoPMIConfigured (R63). -/
structure Conf where
  chanWriteLock : Bool
  hdrAreaBase : Word
  memStart : Word
  minInvalidChannel : Word
  externalRCBase : Word
  initialIptr : Word
  initialWptr : Word
  reason : Word
  emiBadAddress : Word
  banks : Quad Bank
  activeBanks : Quad Bank
  pmiConfigured : Bool
  bootRemapped : Bool
  pmiErrorAddress : Word
  pmiWriteLock : Bool
  refreshControl : Word
  ramSize : BitVec 2
  ramLineNumber : Byte
  ramAddress : Word
  vcpStatus : Word
  vcpStatusSet : Bool
  errorSinceReset : Bool
  standAloneMode : Bool
  errorCode : Byte
  speedMultiply : BitVec 6
  sysServWriteLock : Bool
  deriving DecidableEq, Repr

/-- A packet on a link (43_channels_alt.md R386): the header bytes in front, the data, and whether it ends
in EOM (the last of a message) or EOP. -/
structure Packet where
  header : List Byte
  data : List Byte
  last : Bool
  deriving DecidableEq, Repr

/-- A communication asked for: the process, the data address, the length (or maximum), and whether it is
variable-length (43_channels_alt.md R385). -/
structure Request where
  wdesc : Word
  ptr : Word
  len : Word
  var : Bool
  deriving DecidableEq, Repr

/-- The state of one end of an external channel (R385, R388). -/
inductive EndState where
  /-- No process uses the channel. -/
  | empty
  /-- A process has executed a communication: its descriptor, data address, length (or maximum), whether it
  is variable-length, how many bytes are done, and for an output whether a packet awaits its acknowledge. -/
  | comm (wdesc ptr len : Word) (var : Bool) (done : Word) (sent : Bool)
  /-- An alternative process has enabled the channel. -/
  | enabled (wdesc : Word)
  deriving DecidableEq, Repr

/-- One channel of a virtual link (R385): activation, resource mode, whether `stopch` is stopping it, the use a process
makes of it, the processes that have stopped an output and wait for its end (R438) or, after it, for the channel to be
activated, the packet or acknowledge held while deactivated (with its priority, true for low), the process whose schedule is
held while deactivated, and the process whose output `stopch` has stopped, which `resetch` still returns (R438). -/
structure ChanEnd where
  active : Bool
  resource : Bool
  queued : Bool
  stopping : Bool
  state : EndState
  stoppers : List Word
  pendingPacket : Option Bool
  pendingSchedule : Option Word
  prior : Option Word
  deriving DecidableEq, Repr

/-- A virtual link control block as the abstract record of 47_vcp_config.md R641. -/
structure Vlcb where
  null : Bool
  link : BitVec 2
  offset : Word
  hlen : Byte
  h0 : Byte
  h1 : Byte
  h2 : Byte
  buffer : Word
  held : Option (Nat × Bool)
  inp : ChanEnd
  out : ChanEnd
  deriving DecidableEq, Repr

/-- A process communicating on a byte-stream channel (R387): its descriptor, the data address, the length, how many bytes
are done, and whether its packet is out: of an output one that awaits its acknowledge, of an input the one with the count of
bytes expected. -/
structure ByteComm where
  wdesc : Word
  ptr : Word
  len : Word
  done : Word
  sent : Bool
  deriving DecidableEq, Repr

/-- The four queues of a link (47_vcp_config.md R640) with which of data and acknowledge went last at each
priority, what has arrived and not been accepted, what has been sent and not been taken, the byte-stream transfers, and how
many byte-stream packets that have come are still to be acknowledged (43_channels_alt.md R387). -/
structure LinkQueues where
  hiData : List Nat
  hiAck : List Nat
  loData : List Nat
  loAck : List Nat
  hiLastAck : Bool
  loLastAck : Bool
  arrived : List Packet
  sent : List Packet
  byteOut : Option ByteComm
  byteIn : Option ByteComm
  byteAcks : Nat
  deriving DecidableEq, Repr

/-- The modes of the virtual channel processor (R643). -/
inductive VcpMode where
  | resetting | waiting | running | stopping | discarding
  deriving DecidableEq, Repr

/-- The virtual channel processor (R640); `stopSignalled` is a stop signalled while it was waiting (R643). -/
structure Vcp where
  mode : VcpMode
  stopSignalled : Bool
  vlcbs : List (Nat × Vlcb)
  links : Quad LinkQueues
  deriving DecidableEq, Repr

/-- One pair of event pins (43_channels_alt.md R440): the levels, whether EventIn has risen and not been
consumed, whether the process on the channel has enabled it in an alternative, whether a resource channel has been
queued, whether the end of an output is held while the channel is deactivated (R388), and whether the process
outputting executed `vout` (R395). -/
structure EventPair where
  inLevel : Bool
  outLevel : Bool
  ready : Bool
  enabled : Bool
  queued : Bool
  acked : Bool
  varOut : Bool
  deriving DecidableEq, Repr

/-- The gross states of the control system (47_vcp_config.md R692). -/
inductive Gross where
  | initial | ready | booting | running | stopping | error
  deriving DecidableEq, Repr

/-- The commands of the control link (R695) (log 54, DESIGN CHOICE). -/
inductive Command where
  | start (returnHeader : Half)
  | reset (level : Byte)
  | identify
  | stop
  | recoverError
  | cpeek (address : Half)
  | cpoke (address : Half) (data : Word)
  | peek (address : Word)
  | poke (address data : Word)
  | boot (length address : Word)
  | bootData (d0 d1 d2 d3 : Word)
  | run (wptr iptr : Word)
  | reboot
  | errorHandshake
  deriving DecidableEq, Repr

/-- What the device sends up CLink0 (R691, R695, R697). -/
inductive Message where
  /-- A handshake: the command answered, whether it is valid, and the data it returns. -/
  | handshake (command : Command) (valid : Bool) (data : Option Word)
  /-- An Error message with its code (60_exceptions.md R745). -/
  | error (code : Byte)
  /-- A packet that came in on CLink1. -/
  | forwarded (body : List Byte)
  /-- The acknowledge packet of a packet received. -/
  | acknowledge
  deriving DecidableEq, Repr

/-- The control unit (R690): label, return header, gross state, the command in progress, boot sequence, error
records, the error awaiting its handshake, the error type of the last halt, the packets in the output buffer of CLink0 with
their headers, how many of its own messages await their acknowledge, how many acknowledges still to come are to be ignored
(70_reset_and_hazards.md R779), and the packets in the output buffer of CLink1 (a packet that is no command has none). -/
structure Control where
  gross : Gross
  label : Option Half
  returnHeader : Option Half
  inProgress : Option Command
  bootPtr : Word
  bootRemaining : Word
  errors : List Byte
  errorSent : Option Byte
  haltError : Word
  up : List (Half × Message)
  unacked : Nat
  ignored : Nat
  down : List (Half × Option Command)
  deriving DecidableEq, Repr

/-- How the CPU takes its next step: a whole instruction; one that an agent interrupts after `n` units of an
interruptible instruction (41_control_blockmove.md R290); one whose error cannot be reproduced
(60_exceptions.md R735) (log 27, DESIGN CHOICE). -/
inductive CpuMode where
  | whole
  | part (n : Nat)
  | memSem
  deriving DecidableEq, Repr

/-- What happens next, as plain data: the order in which the agents of 00_scope.md R18 move, and what the
outside does (92_eei_decisions.md D5). -/
inductive Event where
  /-- The CPU moves. -/
  | cpu (mode : CpuMode)
  /-- One microsecond passes (42_process_sched.md R350). -/
  | tick
  /-- The timer agent of a priority (true for low) looks at the front of its list (R356). -/
  | serveTimer (low : Bool)
  /-- An EventIn pin takes a level (43_channels_alt.md R440). -/
  | eventPin (pair : Nat) (level : Bool)
  /-- A packet arrives at a data link. -/
  | packetIn (link : Nat) (p : Packet)
  /-- The VCP accepts the oldest packet that has arrived on a link. -/
  | vcpAccept (link : Nat)
  /-- The VCP goes on with the input channel of a virtual link whose packet buffer holds a packet (R386). -/
  | vcpServe (k : Nat)
  /-- The VCP looks at an event channel: what has been asked of it and has come meets (R440). -/
  | eventServe (pair : Nat)
  /-- The VCP sends the next packet queued for a link. -/
  | vcpSend (link : Nat)
  /-- The next packet of a byte-stream output is sent on a link. -/
  | byteSend (link : Nat)
  /-- An acknowledge, or the count of bytes expected, of a byte-stream input is sent on a link (R387). -/
  | byteReply (link : Nat)
  /-- The far end takes the oldest packet sent on a link. -/
  | wireTaken (link : Nat)
  /-- The fixed time of a VCP reset by the control unit ends (47_vcp_config.md R643). -/
  | vcpResetDone
  /-- The first token arrives on a data link (R649). -/
  | linkToken (link : Nat)
  /-- The link engine of a data link detects a parity or disconnect error (R648). -/
  | linkError (link : Nat) (parity : Bool)
  /-- The pre-fetch of instructions, running ahead of the CPU, misses the main cache at a block (20_memory.md R106,
  70_reset_and_hazards.md R805). -/
  | fill (block : Nat)
  /-- An external bus master writes a byte of external memory (R106). -/
  | busWrite (address : Word) (v : Byte)
  /-- The first token arrives on a control link: CLink1 where `one` holds (47_vcp_config.md R649). -/
  | clinkToken (one : Bool)
  /-- A command packet arrives on CLink0 with its header (47_vcp_config.md R691). -/
  | command (header : Half) (c : Command)
  /-- A packet on CLink0 that is no command: a wrong length or an invalid code (60_exceptions.md R745 #C0). -/
  | badCommand (header : Half)
  /-- The control unit executes the command in progress and sends its handshake (47_vcp_config.md R691). -/
  | handshake
  /-- CLink0 has a parity or disconnect error (R697). -/
  | clink0Error (parity : Bool)
  /-- CLink1 has a parity or disconnect error (R745 #C2). -/
  | clink1Error (parity : Bool)
  /-- A packet arrives on CLink1 and is forwarded (47_vcp_config.md R691). -/
  | clink1In (body : List Byte)
  /-- The acknowledge of a message sent on CLink0 arrives: where `late` holds, of one that a hard reset or RecoverError has
  cleared (R779). -/
  | messageAck (late : Bool)
  /-- The oldest packet in the output buffer of CLink0, or of CLink1, goes out. -/
  | clinkTaken (down : Bool)
  /-- The Reset pin is asserted, StartFromROM being sampled (70_reset_and_hazards.md R772). -/
  | hardReset (startFromRom : Bool)
  deriving DecidableEq, Repr

/-- What a mechanism of the machine ran into while it wrote its structures: it stops the machine at the end
of the step, as an illegal access signalled by the CPU or by the PMI (60_exceptions.md R742), or as behaviour
the spec calls undefined. -/
inductive Trouble (φ : Type) where
  | illegal (address : Word)
  | pmi (address : Word)
  | refuse (f : φ)
  deriving DecidableEq, Repr

end Sys2Proof.Machine
end

