-- ==== Sys2Proof/Machine/State.lean ====
section
/-! DEFINITION. State: everything the spec gives the machine, as plain data (10_state.md; 47_vcp_config.md;
70_reset_and_hazards.md), the reasons a step can stop, and the state after reset. -/

namespace Sys2Proof.Machine

/-- Why a step has no successor: behaviour that the spec calls undefined and gives no effect for
(93_implementation_defined.md, class "refuse"). Every constructor is SAFE: the model stops where hardware goes
on in some way the spec does not say (log 51, DEDUCED). -/
inductive Fault where
  /-- `ldshadow`, `stshadow` at low priority or with markers out of order or range (R342, R343). Safe. -/
  | shadowMarkers
  /-- `ldshadow` loads a descriptor or pointer of a form R342 excludes. Safe. -/
  | shadowValues
  /-- `settimeslice` with Areg neither true nor false (R346). Safe. -/
  | timesliceOperand
  /-- A queue instruction with a priority other than 0 or 1 (R356). Safe. -/
  | queuePriority
  /-- A queue instruction with an unaligned non-empty pointer (R357, R358, R359). Safe. -/
  | queueAlignment
  /-- A region descriptor of an invalid form, or overlapping physical regions (R121). Safe. -/
  | regionDescriptor
  /-- An ordinary load, store or move below MemStart, or an access of a mechanism to the memory of a virtual link
  control block (20_memory.md R90, R51, D20). Safe. -/
  | vlcbMemory
  /-- `fdcl`, `icl` with a line number out of range, or DoAllocate of no such line (R109, R681). Safe. -/
  | cacheLine
  /-- DoRamSize with the undefined RamSize code 10 (R64). Safe. -/
  | ramSize
  /-- Output to an input channel address or input from an output channel address (R391), and `enbc` or `disc` of an
  output channel address (log 65, DESIGN CHOICE). Safe. -/
  | channelDirection
  /-- Input on an idle resource channel with no grant (R390). Safe. -/
  | resourceInput
  /-- A communication on an external channel end that already has one (93: two processes on one end); and an input on or
  `enbc` of an event channel of which the output end is deactivated (log 81, DESIGN CHOICE). Safe. -/
  | channelBusy
  /-- `mkrc` with both a client and a server waiting (R427). Safe. -/
  | resourceBothWaiting
  /-- `irdsq` with unaligned Breg or Creg (R431). Safe. -/
  | resourceQueueAlignment
  /-- An alternative whose pw.State or pw.TLink holds no value the discipline allows (R405, R415). Safe. -/
  | altDiscipline
  /-- A byte-stream communication that is variable-length or of length 0, or on a link not in byte-stream
  mode with 1-byte headers (R380, R387). Safe. -/
  | byteStream
  /-- `goprot`, `restart`, `tret` with an unaligned saved workspace pointer (R455, R459, R467). Safe. -/
  | savedWorkspace
  /-- `restart` of a block whose ps.Cntl marks a P-process (R459). Safe. -/
  | restartProtected
  /-- `tret` with an unaligned handler queue (R467). Safe. -/
  | handlerQueue
  /-- A control word that enables a watchpoint with unaligned or inverted bounds (R484). Safe. -/
  | watchBounds
  /-- Any interaction with a resetting VCP but the end of its reset (R643). Safe. -/
  | vcpResetting
  /-- A VCP or link register changed while the unit runs (R801, 93 section 1.6). Safe. -/
  | unitRunning
  /-- `sethdr` moves a channel with a communication in progress to another link (R652). Safe. -/
  | headerInUse
  /-- A packet whose header maps to memory not set up as a control block (R642). Safe. -/
  | headerUnmapped
  /-- A virtual link placed on a byte-mode link, or a byte-mode link with 2-byte headers (R65). Safe. -/
  | linkMode
  /-- `fpldall` with bits 31:8 of the status word non-zero (R581). Safe. -/
  | fpStatusWord
  /-- A control-link Peek, Poke or Boot with an unaligned address (R695). Safe. -/
  | controlAlignment
  /-- `tret` with Areg = 0 after a deschedule trap (44_protection_trap.md R486, 93). Safe. -/
  | descheduledReturn
  deriving DecidableEq, Repr

/-- Why a step has no meaning in the model. -/
inductive Refusal where
  /-- An instruction that has no meaning yet, by its mnemonic; raised by `exec`'s refused arms only. Safe. -/
  | notModelled (mnemonic : String)
  /-- A term of the syntax that is no instruction: `opr` with an assigned operation code, which the decoder
  never gives. Safe. -/
  | illFormed
  deriving DecidableEq, Repr

/-- The machine. -/
structure State where
  /-- The state registers (R20, R32). -/
  r : Regs
  /-- The shadow registers (R34). -/
  sh : Regs
  /-- Whether the shadow registers hold an interrupted state (R37 (j)). -/
  shadowValid : Bool
  /-- The instruction data value (30_encoding.md R131). -/
  oreg : Word
  /-- A prefix sequence longer than one step is in progress (R134, log 4, DESIGN CHOICE). -/
  inChain : Bool
  /-- The scheduler and timer registers of high and of low priority (R35). -/
  hi : Sched
  lo : Sched
  /-- Whether the clocks run (42_process_sched.md R350). -/
  clockRunning : Bool
  /-- Microseconds into the timeslice period (R352). -/
  tickPhase : BitVec 8
  /-- Timeslice periods ended since the low priority process was loaded (R352). -/
  tsCount : Nat
  /-- Interrupt-enable (R345). -/
  intEnabled : Bool
  /-- Memory as the on-chip agents see it. -/
  mem : Memory
  cache : Cache
  ws : WsCache
  /-- The pre-fetch buffer (70_reset_and_hazards.md R805): the words stored to since the last taken transfer of control,
  each with a value it held before. -/
  prefetch : List (Nat × Word)
  conf : Conf
  /-- The data links Link0 to Link3. -/
  links : Quad Link
  /-- The control links CLink0 and CLink1. -/
  clink0 : Link
  clink1 : Link
  vcp : Vcp
  events : Quad EventPair
  ctl : Control
  /-- The model's own: what happens next (log 6, DESIGN CHOICE). -/
  agenda : List Event
  /-- The model's own: how the CPU takes the present step (log 6, DESIGN CHOICE). -/
  cpuMode : CpuMode
  /-- The model's own: the present step goes on with an interrupted instruction (log 29, DESIGN CHOICE). -/
  resuming : Bool
  /-- The model's own: the trap-handlers in use whose trap was a deschedule trap (44_protection_trap.md R486). -/
  descheduled : List Word
  /-- The model's own: the channels put last on a resource queue and given no successor since: what their rc.Ptr
  holds is not defined (43_channels_alt.md R432, log 19, DEDUCED). -/
  rcTails : List Word
  /-- The model's own: the processes whose present communication is an `outbyte` or `outword`, the message being in their
  pw.Temp (43_channels_alt.md R392, R393; log 37, DESIGN CHOICE). -/
  temps : List Word
  /-- The model's own: what a mechanism ran into in the present step; none between steps. -/
  trouble : Option (Trouble Fault)
  /-- The model's own: the number of draws taken (00_scope.md R14, log 2, DESIGN CHOICE). -/
  draws : Nat
  deriving DecidableEq, Repr

/-- A step's outcome. -/
abbrev Out := Host.Outcome State Fault Refusal

/-- The registers after reset (70_reset_and_hazards.md R775; the values the spec does not give: log 7, DESIGN CHOICE). -/
def Regs.reset : Regs where
  status := 0x80#32
  wdesc := 0x80000000#32
  iptr := 0#32
  areg := 0#32
  breg := 0#32
  creg := 0#32
  th := 0x80000000#32
  round := 0#2
  fpA := ⟨false, 0#64⟩
  fpB := ⟨false, 0#64⟩
  fpC := ⟨false, 0#64⟩
  bm0 := 0#32
  bm1 := 0#32
  bm2 := 0#32
  wl := 0#32
  wu := 0#32
  ereg := 0#32
  xreg := 0#32
  eptr := 0#32
  region := .all 0#32
  pstate := 0#32
  wstub := 0#32
  midInstr := false

/-- The shadow registers after reset: unspecified (R775); the values of log 7, DESIGN CHOICE. -/
def Regs.shadowReset : Regs := { Regs.reset with status := 0#32, th := 0#32 }

/-- The scheduler registers of one priority after reset (R775; Tptr by D59). -/
def Sched.reset : Sched :=
  { fptr := 0x80000000#32, bptr := 0#32, clock := 0#32, tptr := 0x80000000#32, tnext := 0#32 }

/-- A link after reset (R776: not started, base speed, LocalizeError 0). -/
def Link.reset : Link where
  mode := 0#5
  linkError := false
  started := false
  resetOutputDone := false
  parityError := false
  discError := false
  tokenReceived := false
  startBit := false
  writeLock := false
  vcpMode := 0#3
  maxHeader := 0#16
  minHeader := 0#16
  hdrOffset := 0#16

/-- A programmable bank after reset (R776: unspecified; log 7, DESIGN CHOICE). -/
def Bank.reset : Bank where
  address := 0#32
  mask := 0#32
  formatControl := 0#32
  rasBits := 0#32
  rasStrobe := 0#32
  casStrobe := 0#32
  progStrobe := 0#32
  writeStrobe := 0#32
  timingControl := 0#32

/-- The configuration registers after reset (R776; the unspecified ones by log 7 and log 8, DESIGN CHOICE). -/
def Conf.reset : Conf where
  chanWriteLock := false
  hdrAreaBase := 0#32
  memStart := 0x80000000#32
  minInvalidChannel := 0x80000000#32
  externalRCBase := 0#32
  initialIptr := 0#32
  initialWptr := 0#32
  reason := 0#32
  emiBadAddress := 0#32
  banks := .all Bank.reset
  activeBanks := .all Bank.reset
  pmiConfigured := false
  bootRemapped := false
  pmiErrorAddress := 0#32
  pmiWriteLock := false
  refreshControl := 0#32
  ramSize := 0#2
  ramLineNumber := 0#8
  ramAddress := 0#32
  vcpStatus := 0#32
  vcpStatusSet := false
  errorSinceReset := false
  standAloneMode := false
  errorCode := 0#8
  speedMultiply := 0#6
  sysServWriteLock := false

/-- The queues of a link when empty. -/
def LinkQueues.empty : LinkQueues where
  hiData := []
  hiAck := []
  loData := []
  loAck := []
  hiLastAck := false
  loLastAck := false
  arrived := []
  sent := []
  byteOut := none
  byteIn := none
  byteAcks := 0

/-- The VCP after reset: waiting, queues empty (R772, 47_vcp_config.md R643). -/
def Vcp.reset : Vcp := { mode := .waiting, stopSignalled := false, vlcbs := [], links := .all LinkQueues.empty }

/-- A pair of event pins after reset (R772: EventOut low, empty). -/
def EventPair.reset : EventPair :=
  { inLevel := false, outLevel := false, ready := false, enabled := false, queued := false, acked := false, varOut := false }

/-- The control unit after reset (R772: Initial, label and return header unset, no error record). -/
def Control.reset : Control where
  gross := .initial
  label := none
  returnHeader := none
  inProgress := none
  bootPtr := 0#32
  bootRemaining := 0#32
  errors := []
  errorSent := none
  haltError := 0#32
  up := []
  unacked := 0
  ignored := 0
  down := []

/-- The machine right after hard reset, StartFromROM being low (70_reset_and_hazards.md R772, R775, R776;
log 7, log 8, log 9, DESIGN CHOICE). -/
def State.reset : State where
  r := Regs.reset
  sh := Regs.shadowReset
  shadowValid := false
  oreg := 0#32
  inChain := false
  hi := Sched.reset
  lo := Sched.reset
  clockRunning := false
  tickPhase := 0#8
  tsCount := 0
  intEnabled := true
  mem := []
  cache := { lines := [], locked := [], ramSize := 0#2 }
  ws := { valid := 0#32, stale := [] }
  prefetch := []
  conf := Conf.reset
  links := .all Link.reset
  clink0 := Link.reset
  clink1 := Link.reset
  vcp := Vcp.reset
  events := .all EventPair.reset
  ctl := Control.reset
  agenda := []
  cpuMode := .whole
  resuming := false
  descheduled := []
  rcTails := []
  temps := []
  trouble := none
  draws := 0

end Sys2Proof.Machine
end

