-- ==== Sys2Proof/Machine/Flags.lean ====
section
/-! DEFINITION. Flags: the bits of StatusReg (10_state.md R30), the error types (60_exceptions.md R701), the
reasons of a trap (R702), and how a set of floating-point signals becomes flags or one trap (R703). -/

namespace Sys2Proof.Machine

/-! ## The bits of StatusReg -/

abbrev sbFPErrorFlag : Nat := 2
abbrev sbFPErrorTeBit : Nat := 3
abbrev sbIntOvFlag : Nat := 6
abbrev sbIntOvTeBit : Nat := 7
abbrev sbFPInOpFlag : Nat := 8
abbrev sbFPInOpTeBit : Nat := 9
abbrev sbFPDivByZeroFlag : Nat := 10
abbrev sbFPDivByZeroTeBit : Nat := 11
abbrev sbFPOvFlag : Nat := 12
abbrev sbFPOvTeBit : Nat := 13
abbrev sbFPUndFlag : Nat := 14
abbrev sbFPUndTeBit : Nat := 15
abbrev sbFPInexFlag : Nat := 16
abbrev sbFPInexTeBit : Nat := 17
abbrev sbUnalignTeBit : Nat := 19
abbrev sbTimesliceDisabledBit : Nat := 25
abbrev sbStepBit : Nat := 26
abbrev sbIsPprocessBit : Nat := 27
abbrev sbWtchPntEnbl : Nat := 29
abbrev sbWtchPntPend : Nat := 30

/-- The bits of R30's table. -/
def statusMask : Word := 0x6E0BFFCC#32

/-- FLAGMASK of 44_protection_trap.md R470. -/
def flagMask : Word := 0x000BFFCC#32

/-- sb.ThInUse, the extra bit of th.Cntl (R45). -/
def thInUse : Word := 0x80000000#32

/-- The bits of a control word that are no bit of R30's table nor sb.ThInUse. -/
def reservedBits : Word := ~~~ (statusMask ||| thInUse)

/-- A control word as it is saved: the reserved bits are any value (R30, 93 section 1.1) (log 28, DESIGN CHOICE). -/
def controlWord (w free : Word) : Word := (w &&& ~~~ reservedBits) ||| (free &&& reservedBits)

/-- The default control word (R31). -/
def defaultControl : Word := 0x80#32

/-- One bit of a status word. -/
abbrev bitOf (w : Word) (i : Nat) : Bool := w.getLsbD i

/-- A status word with one bit set. -/
def setBit (w : Word) (i : Nat) : Word := w ||| (1#32 <<< i)

/-- A status word with one bit cleared. -/
def clearBit (w : Word) (i : Nat) : Word := w &&& ~~~ (1#32 <<< i)

/-- A status word with one bit set where a condition holds. -/
def setBitIf (c : Bool) (w : Word) (i : Nat) : Word := if c then setBit w i else w

/-! ## Error types (R701) and trap reasons (R702) -/

abbrev etNoError : Word := 0#32
abbrev etPrivInstruction : Word := 1#32
abbrev etIllegalInstruction : Word := 2#32
abbrev etUnalign : Word := 3#32
abbrev etAccessViolation : Word := 4#32
abbrev etIntegerError : Word := 5#32
abbrev etIntegerOverflow : Word := 6#32
abbrev etFPError : Word := 7#32
abbrev etFPInvalidOp : Word := 8#32
abbrev etFPDivideByZero : Word := 9#32
abbrev etFPOverflow : Word := 10#32
abbrev etFPUnderflow : Word := 11#32
abbrev etFPInexact : Word := 12#32
abbrev etMemSemError : Word := 13#32

/-- The cause encoded in bits 3..1 of a trap reason (R702). -/
inductive TrapKind where
  | error | breakpoint | none | timeslice | syscall | deschedule | causeerror | context
  deriving DecidableEq, Repr

/-- The three-bit code of a cause (R702). -/
def TrapKind.code : TrapKind → Nat
  | .error => 0
  | .breakpoint => 1
  | .none => 2
  | .timeslice => 3
  | .syscall => 4
  | .deschedule => 5
  | .causeerror => 6
  | .context => 7

/-- `reason = 16·step + 2·kind + watch` (R702). -/
def trapReason (step : Bool) (kind : TrapKind) (watch : Bool) : Word :=
  BitVec.ofNat 32 ((if step then 16 else 0) + 2 * kind.code + (if watch then 1 else 0))

/-! ## Floating-point signals (R703, R710 to R715) -/

/-- The floating-point signals one instruction raises: FPError, FPInvalidOp, FPDivideByZero, FPOverflow,
FPUnderflow, FPInexact. -/
structure FpSig where
  err : Bool
  inv : Bool
  dz : Bool
  ov : Bool
  un : Bool
  ix : Bool
  deriving DecidableEq, Repr

/-- No signal. -/
def FpSig.none : FpSig := ⟨false, false, false, false, false, false⟩

/-- The error type of the trap a set of floating-point signals causes, if it causes one: the precedence of
R701 and R703 (log 49, DEDUCED). -/
def FpSig.trap (sg : FpSig) (status : Word) : Option Word :=
  if sg.err && bitOf status sbFPErrorTeBit then some etFPError
  else if sg.inv && bitOf status sbFPInOpTeBit then some etFPInvalidOp
  else if sg.dz && bitOf status sbFPDivByZeroTeBit then some etFPDivideByZero
  else if sg.ov && bitOf status sbFPOvTeBit then some etFPOverflow
  else if sg.un && bitOf status sbFPUndTeBit then some etFPUnderflow
  else if sg.ix && bitOf status sbFPInexTeBit then some etFPInexact
  else Option.none

/-- StatusReg after a set of signals none of which traps: every flag of the set is set (R703). -/
def FpSig.flags (sg : FpSig) (status : Word) : Word :=
  setBitIf sg.ix (setBitIf sg.un (setBitIf sg.ov (setBitIf sg.dz (setBitIf sg.inv
    (setBitIf sg.err status sbFPErrorFlag) sbFPInOpFlag) sbFPDivByZeroFlag) sbFPOvFlag) sbFPUndFlag) sbFPInexFlag

end Sys2Proof.Machine
end

