-- ==== Sys2Proof/Machine/Bus.lean ====
section
/-! DEFINITION. Bus: physical memory as the on-chip agents reach it: the decode of an address, the caches,
the draws of undefined values, and the reads and writes of the machine's own mechanisms
(20_memory.md R90 to R112, 00_scope.md R14). -/

namespace Sys2Proof.Machine

/-! ## Values with a name (00_scope.md R6) -/

abbrev notProcess : Word := 0x80000000#32
abbrev enablingP : Word := 0x80000001#32
abbrev waitingP : Word := 0x80000002#32
abbrev readyP : Word := 0x80000003#32
abbrev deactivatedP : Word := 0x80000001#32
abbrev resChanP : Word := 0x80000002#32
abbrev timeSetP : Word := 0x80000001#32
abbrev timeNotSetP : Word := 0x80000002#32
abbrev noneSelectedO : Word := 0xFFFFFFFF#32
abbrev lengthErrorP : Word := 0xFFFFFFFF#32
abbrev nullHeader : Word := 0xFFFFFFFF#32
abbrev nullOffset : Word := 0xFFFFFFFF#32

/-! ## Draws (R14) -/

/-- The `i`-th draw from here. -/
abbrev State.drawn (s : State) (i : Nat) : Word := Config.freeWord (s.draws + i)

/-- An undefined floating-point register: undefined bits and an undefined tag (45_floating_point.md R512)
(log 2, DESIGN CHOICE). -/
def freeEntry (n : Nat) : FpEntry := ⟨Config.freeBit n, Config.freeDword n⟩

/-- A fresh draw in place of a value where a condition holds. -/
abbrev orFree (c : Bool) (v free : Word) : Word := if c then v else free

/-! ## What decodes an address (R95 to R99, R108) -/

/-- What an address reaches. -/
inductive Target where
  | ram
  | bank (k : Nat)
  | boot
  | none
  deriving DecidableEq, Repr

/-- The on-chip RAM (R108): 16 Kbytes, 8 Kbytes or none. -/
def onChipRam (ramSize : BitVec 2) (a : Word) : Bool :=
  if ramSize = 0#2 then a - mostNeg < 0x4000#32
  else if ramSize = 1#2 then a - mostNeg < 0x2000#32
  else false

/-- The block of 16 bytes that holds an address: its tag and, in bits 1..0, its cache bank (R105). -/
abbrev blockOf (a : Word) : Nat := a.toNat / 16

/-- A row of a cache bank has been locked by DoAllocate, to some block. -/
def Cache.relocked (c : Cache) (row bank : Nat) : Bool := c.locked.any fun l => l.1 == row && l.2 % 4 == bank

/-- A block is locked in the cache by DoAllocate (R64, R108). -/
def Cache.locks (c : Cache) (b : Nat) : Bool := c.locked.any fun l => l.2 == b

/-- A line of the cache that is on-chip RAM holds an address (R108): line L of bank b holds 64 L + 16 b of the RAM
unless DoAllocate has locked it elsewhere. -/
def Cache.isRam (c : Cache) (a : Word) : Bool :=
  (onChipRam c.ramSize a && !c.relocked ((a - mostNeg).toNat / 64) (blockOf a % 4)) || c.locks (blockOf a)

/-- A programmable bank decodes an address (R95). -/
def Bank.hits (b : Bank) (a : Word) : Bool := ((a ^^^ b.address) &&& b.mask) &&& 0xFFFFFFFC#32 == 0#32

/-- The programmable bank that decodes an address, by the priority of R95; none before DoPMIConfigured (R96). -/
def bankOf (c : Conf) (a : Word) : Option Nat :=
  if !c.pmiConfigured then Option.none
  else if c.activeBanks.q0.hits a then some 0
  else if c.activeBanks.q1.hits a then some 1
  else if c.activeBanks.q2.hits a then some 2
  else if c.activeBanks.q3.hits a then some 3
  else Option.none

/-- The boot bank (R98), unless RemapBootBank has been written (R99). -/
def inBootBank (c : Conf) (a : Word) : Bool := !c.bootRemapped && a >>> 24 == 0x7F#32

/-- What an address reaches (R95 to R99, R108; log 10, DESIGN CHOICE). -/
def State.target (s : State) (a : Word) : Target :=
  if s.cache.isRam a then .ram
  else match bankOf s.conf a with
    | some k => .bank k
    | Option.none => if inBootBank s.conf a then .boot else .none

/-- What decodes an address takes an access (R97, R98): `dev` for a device access, `wr` for a write. -/
def State.decoded (s : State) (dev wr : Bool) (a : Word) : Bool :=
  match s.target a with
  | .ram => true
  | .bank k => dev || !Config.deviceBank k
  | .boot => !(wr && Config.bootStoreErrors)
  | .none => false

/-- The cache holds a block. -/
def Cache.holds (c : Cache) (b : Nat) : Bool := c.lines.any fun l => l.block == b

/-- Whether an access is legal (R97, R98): what decodes the address takes it, or it is no device access and hits the cache,
so that nothing outside is accessed (R106). -/
def State.legal (s : State) (dev wr : Bool) (a : Word) : Bool :=
  s.decoded dev wr a || (!dev && s.cache.holds (blockOf a))

/-! ## The main cache (R105 to R109) -/

/-- A physical address is cacheable (R107). -/
def State.cacheable (s : State) (a : Word) : Bool :=
  match s.target a with
  | .bank k =>
    let f := (s.conf.activeBanks.get k).formatControl
    s.cache.ramSize != 0#2 && (f.getLsbD 2 || (!f.getLsbD 3 && !f.getLsbD 4))
  | _ => false

/-- A miss at an address fetches its block into the cache: the address is cacheable (R107), and its bank takes an access that
is no device access. One of a device bank is illegal (R97): made ahead of need it is ignored, and else it halts. -/
def State.fetchable (s : State) (a : Word) : Bool := s.decoded false false a && s.cacheable a

/-- The word-aligned address of the word that holds a byte. -/
abbrev wordAddr (a : Word) : Word := a &&& 0xFFFFFFFC#32

/-- The address of word `i` of a block. -/
abbrev blockWord (b i : Nat) : Word := BitVec.ofNat 32 (16 * b + 4 * i)

/-- The place in its block of the word that holds an address (R105). -/
abbrev wordInBlock (a : Word) : Nat := a.toNat / 4 % 4

/-- The four words of a block in memory. -/
def Memory.block (m : Memory) (b : Nat) : Quad Word :=
  ⟨m.word (blockWord b 0), m.word (blockWord b 1), m.word (blockWord b 2), m.word (blockWord b 3)⟩

/-- What the memory that decodes an address does with a store that reaches it: on-chip RAM keeps it, and a bank where
the board has attached memory that does (D3); the boot bank is read only (R98). -/
def State.keeps (s : State) (a : Word) : Bool :=
  match s.target a with
  | .ram => true
  | .bank k => Config.bankStores k a
  | _ => false

/-- A store changes what the on-chip agents read at an address: memory keeps it, or the cache holds it. -/
def State.takes (s : State) (dev : Bool) (a : Word) : Bool :=
  s.keeps a ||
    match s.target a with
    | .ram => false
    | _ => s.cache.holds (blockOf a) || (!dev && s.fetchable a)

/-- How many rows of each bank of the cache are on-chip RAM (R108). -/
def ramRows (ramSize : BitVec 2) : Nat := if ramSize = 0#2 then 256 else if ramSize = 1#2 then 128 else 0

/-- The rows of a bank that can hold a line and hold none. -/
def Cache.freeRows (c : Cache) (bank : Nat) : List Nat :=
  (List.range 256).filter fun r =>
    decide (ramRows c.ramSize ≤ r) && !c.lines.any fun l => l.row == some r && l.block % 4 == bank

/-- The cache after a miss has fetched a block, clean (R106). The line takes its row of the bank, and makes another give way,
when the refill engine moves next (`State.placeLine`; log 15, DESIGN CHOICE). -/
def Cache.fill (c : Cache) (m : Memory) (b : Nat) : Cache :=
  { c with lines := c.lines ++ [⟨none, b, .all false, m.block b⟩] }

/-- The line of a block with one of its words dirty (R106). -/
def Cache.dirtied (c : Cache) (b i : Nat) : Cache :=
  { c with lines := c.lines.map fun l => if l.block = b then { l with dirty := l.dirty.set i true } else l }

/-- One word of a quad changed by a write of bytes, as memory is: `a` is the address of the word. -/
def Quad.rewrite (q : Quad Word) (i : Nat) (a : Word) (f : Memory → Memory) : Quad Word :=
  q.set i ((f (Memory.writeWord [] a (q.get i))).word a)

/-- The cache after external memory has been written at an address: the line that holds it records what external
memory now holds. -/
def Cache.external (c : Cache) (a : Word) (f : Memory → Memory) : Cache :=
  { c with lines := c.lines.map fun l =>
      if l.block = blockOf a then { l with ext := l.ext.rewrite (wordInBlock a) (wordAddr a) f } else l }

/-- The cache after a store of an on-chip agent at an address: a hit makes the word dirty; a miss at a cacheable
address, of no device bank, fills a line first (R106). A store of a device instruction is made to external memory as well, and fills no
line (R111; log 15, DESIGN CHOICE). -/
def State.cacheStore (s : State) (dev : Bool) (a : Word) (f : Memory → Memory) : Cache :=
  if dev then (if s.keeps a then s.cache.external a f else s.cache)
  else if s.cache.holds (blockOf a) then s.cache.dirtied (blockOf a) (wordInBlock a)
  else if s.fetchable a then (s.cache.fill s.mem (blockOf a)).dirtied (blockOf a) (wordInBlock a)
  else s.cache

/-- The number by which `fdcl` and `icl` know the line of a row and a bank (R105, R109; log 11, DESIGN CHOICE): the rows that
stay cache with half of it RAM are lines 512 .. 1023; in each half the number is the place of the line in the order of
`Config.linePlace`, so that no two lines have one number (`lineNumber_inj`). -/
def lineNumber (row bank : Nat) : Nat :=
  let x := 4 * row + bank
  let first := 512 * (row / 128)
  first + (List.range 512).countP fun i =>
    Config.linePlace (first + i) < Config.linePlace x ||
      (Config.linePlace (first + i) == Config.linePlace x && decide (first + i < x))

/-- The number of a line that has its row. -/
def CacheLine.number (l : CacheLine) : Option Nat := l.row.map fun r => lineNumber r (l.block % 4)

/-- A line written back: its dirty words go to external memory, which keeps them where it can, and it is clean. -/
def State.cleaned (s : State) (l : CacheLine) : CacheLine :=
  let w (i : Nat) : Word :=
    if l.dirty.get i && s.keeps (blockWord l.block i) then s.mem.word (blockWord l.block i) else l.ext.get i
  { l with dirty := .all false, ext := ⟨w 0, w 1, w 2, w 3⟩ }

/-- The lines that meet a condition are written back; they stay valid (R109 fdca). -/
def State.flushLines (s : State) (p : CacheLine → Bool) : State :=
  { s with cache := { s.cache with lines := s.cache.lines.map fun l => if p l then s.cleaned l else l } }

/-- The words of some lines as external memory holds them, put back one after another. -/
def revertLines (m : Memory) : List CacheLine → Memory
  | [] => m
  | l :: rest =>
    revertLines ((((m.writeWord (blockWord l.block 0) l.ext.q0).writeWord (blockWord l.block 1) l.ext.q1).writeWord
      (blockWord l.block 2) l.ext.q2).writeWord (blockWord l.block 3) l.ext.q3) rest

/-! ## Translation (R120 to R122) -/

/-- Wptr (10_state.md R24). -/
abbrev Regs.wptr (r : Regs) : Word := r.wdesc &&& 0xFFFFFFFC#32

/-- A P-process is running (sb.IsPprocessBit, R30). -/
abbrev Regs.isP (r : Regs) : Bool := bitOf r.status sbIsPprocessBit

/-- The kind of an access. -/
inductive Access where
  | read | write | fetch
  deriving DecidableEq, Repr

/-- What translation answers. -/
inductive Xlat where
  | ok (p : Word)
  | violation
  | invalid
  deriving DecidableEq, Repr

/-- The index of the lowest set bit of a word from bit `i` on, looking at `fuel` bits. -/
def lowestSet (d : Word) : Nat → Nat → Option Nat
  | 0, _ => Option.none
  | fuel + 1, i => if d.getLsbD i then some i else lowestSet d fuel (i + 1)

/-- The `n` of a region of 2^n bytes (R121, R122), if the descriptor has a valid form. -/
def regionSize (d : Word) : Option Nat :=
  match lowestSet d 26 4 with
  | some i => if i < 7 then Option.none else some (i + 1)
  | Option.none => Option.none

/-- R122 for a logical address through one descriptor. -/
def translateWith (d : Word) (dev : Bool) (k : Access) (a : Word) : Xlat :=
  if d = 0x80000000#32 then .violation
  else match regionSize d with
    | Option.none => .invalid
    | some n =>
      let low : Word := (1#32 <<< n) - 1#32
      let high : Word := 0x3FFFFFFF#32 &&& ~~~ low
      if d.getLsbD 2 && (a &&& high) != high then .violation
      else if !d.getLsbD 2 && (a &&& high) != 0#32 then .violation
      else if k = .write && !d.getLsbD 0 then .violation
      else if k = .fetch && !d.getLsbD 1 then .violation
      else if d.getLsbD 3 && !dev then .violation
      else .ok ((d &&& ~~~ low) ||| (a &&& low))

/-- Two descriptors whose physical regions overlap, for which the spec gives no effect (R121). -/
def regionsMeet (d e : Word) : Bool :=
  if d = 0x80000000#32 || e = 0x80000000#32 then false
  else match regionSize d, regionSize e with
    | some m, some n => (d ^^^ e) >>> (Nat.max m n) == 0#32
    | _, _ => false

/-- Some two of four physical regions overlap (log 25, DESIGN CHOICE). -/
def anyRegionsMeet (q : Quad Word) : Bool :=
  regionsMeet q.q0 q.q1 || regionsMeet q.q0 q.q2 || regionsMeet q.q0 q.q3 || regionsMeet q.q1 q.q2 ||
    regionsMeet q.q1 q.q3 || regionsMeet q.q2 q.q3

/-- The physical address of an access: an L-process is not translated (R120). -/
def Regs.translate (r : Regs) (dev : Bool) (k : Access) (a : Word) : Xlat :=
  if r.isP then translateWith (r.region.get (a >>> 30).toNat) dev k a else .ok a

/-- The physical address of an access that has been checked. -/
def Regs.place (r : Regs) (dev : Bool) (k : Access) (a : Word) : Word :=
  match r.translate dev k a with
  | .ok p => p
  | _ => a

/-! ## The workspace cache (R104) -/

/-- Where the workspace lies in physical memory. -/
def Regs.physWptr (r : Regs) : Word :=
  match r.translate true .read r.wptr with
  | .ok p => p
  | _ => r.wptr

/-- An address is one of the 32 words from Wptr on. -/
def inWorkspace (wptr a : Word) : Bool := a - wptr < 128#32

/-- The bit of the slot of a word. -/
def slotBit (a : Word) : BitVec 32 := 1#32 <<< (((a >>> 2) &&& 31#32).toNat)

/-- The workspace cache after a whole-word write by the CPU. -/
def WsCache.wordWritten (w : WsCache) (wptr a : Word) : WsCache :=
  if inWorkspace wptr a then
    { valid := w.valid ||| slotBit a, stale := w.stale.filter fun e => e.1 != a.toNat }
  else w

/-- The workspace cache after a part-word write by the CPU. -/
def WsCache.partWritten (w : WsCache) (wptr a : Word) : WsCache :=
  if inWorkspace wptr a then
    { valid := w.valid &&& ~~~ slotBit a, stale := w.stale.filter fun e => e.1 != a.toNat }
  else w

/-- The workspace cache after a write by another agent: the old value may still be read by `ldl` (D23). -/
def WsCache.agentWritten (w : WsCache) (wptr a old : Word) : WsCache :=
  if inWorkspace wptr a && (w.valid &&& slotBit a != 0#32) then { w with stale := (a.toNat, old) :: w.stale } else w

/-- The workspace cache wholly invalid (a context switch or interrupt). -/
def WsCache.invalid : WsCache := { valid := 0#32, stale := [] }

/-- The slots of the words that come into range when Wptr moves from `old` to `new`. -/
def newSlots (old new : Word) : BitVec 32 :=
  let d := new - old
  if d < 128#32 then ((1#32 <<< (d >>> 2).toNat) - 1#32).rotateLeft ((old >>> 2) &&& 31#32).toNat
  else if old - new < 128#32 then ((1#32 <<< ((old - new) >>> 2).toNat) - 1#32).rotateLeft ((new >>> 2) &&& 31#32).toNat
  else 0xFFFFFFFF#32

/-- The workspace cache after Wptr moves from `old` to `new`, which lies at `phys` in physical memory: all new
locations in the range are marked invalid. -/
def WsCache.adjusted (w : WsCache) (old new phys : Word) : WsCache :=
  { valid := w.valid &&& ~~~ newSlots old new
    stale := w.stale.filter fun e => inWorkspace phys (BitVec.ofNat 32 e.1) }

/-! ## The pre-fetch buffer (70_reset_and_hazards.md R805) -/

/-- The word at an address is about to change: the old one may still be fetched until control is transferred. -/
def State.prefetchWrite (s : State) (a : Word) : List (Nat × Word) :=
  ((wordAddr a).toNat, s.mem.word (wordAddr a)) :: s.prefetch

/-- A taken transfer of control empties the pre-fetch buffer (R805 (a)). -/
def State.transfer (s : State) : State := { s with prefetch := [] }

/-! ## Invalidation and replacement (R106, R682) -/

/-- A word is about to change under the CPU: what the workspace cache and the pre-fetch buffer may still hold. -/
def State.foreignWrite (s : State) (a : Word) : State :=
  { s with ws := s.ws.agentWritten s.r.physWptr a (s.mem.word a), prefetch := s.prefetchWrite a }

/-- The four words of each of some lines are about to change. -/
def State.foreignLines (s : State) : List CacheLine → State
  | [] => s
  | l :: rest =>
    ((((s.foreignWrite (blockWord l.block 0)).foreignWrite (blockWord l.block 1)).foreignWrite
      (blockWord l.block 2)).foreignWrite (blockWord l.block 3)).foreignLines rest

/-- The lines that meet a condition made invalid without write-back: their words read as external memory holds them
(R682). -/
def State.dropLines (s : State) (p : CacheLine → Bool) : State :=
  let gone := s.cache.lines.filter p
  { s.foreignLines gone with
    mem := revertLines s.mem gone
    cache := { s.cache with lines := s.cache.lines.filter fun l => !p l } }

/-- `ica` and `icl`: lines invalidated without write-back (R109). What becomes of a locked line is not described (R682):
it stays (log 66, DESIGN CHOICE). -/
def State.invalidateLines (s : State) (p : CacheLine → Bool) : State :=
  s.dropLines fun l => p l && !s.cache.locks l.block

/-- Lines replaced: dirty words written back, then the lines invalid (R106); a locked line is not replaced. -/
def State.evictLines (s : State) (p : CacheLine → Bool) : State := (s.flushLines p).invalidateLines p

/-- The lines of a bank that can be replaced. -/
def Cache.replaceable (c : Cache) (bank : Nat) : List CacheLine :=
  c.lines.filter fun l => l.row.isSome && l.block % 4 == bank && !c.locks l.block

/-- After a miss one line of the bank, chosen at random, is invalidated, so that at least one is empty (R106): any row may
be the one, an empty one too as long as there is one. Of a bank whose lines are all locked none is (log 15, DESIGN
CHOICE). -/
def State.invalidateOne (s : State) (bank : Nat) : State :=
  let ls := s.cache.replaceable bank
  let n := if (s.cache.freeRows bank).isEmpty then ls.length else 256 - ramRows s.cache.ramSize
  match ls[Config.freeNat s.draws % n]? with
  | some l => { s with draws := s.draws + 1 }.evictLines fun k => k.block == l.block
  | Option.none => { s with draws := s.draws + 1 }

/-- A line has been fetched and has no row yet. -/
def Cache.waiting (c : Cache) : Bool := c.lines.any fun l => l.row.isNone

/-- The line of a block with its row. -/
def Cache.placed (c : Cache) (b row : Nat) : Cache :=
  { c with lines := c.lines.map fun l => if l.block = b then { l with row := some row } else l }

/-- The refill engine moves (R106): the first line that has been fetched and has no row takes an empty one of its bank, and a
line chosen at random is invalidated. Where DoAllocate has taken the last empty one a line is invalidated first; where every
line of the bank is locked the block does not stay (log 15, DESIGN CHOICE). -/
def State.placeLine (s : State) : State :=
  match s.cache.lines.find? fun l => l.row.isNone with
  | Option.none => s
  | some l =>
    let rows := s.cache.freeRows (l.block % 4)
    match rows[Config.freeNat s.draws % rows.length]? with
    | some r => { s with cache := s.cache.placed l.block r, draws := s.draws + 1 }.invalidateOne (l.block % 4)
    | Option.none =>
      if (s.cache.replaceable (l.block % 4)).isEmpty then
        (s.flushLines fun k => k.block == l.block).dropLines fun k => k.block == l.block
      else s.invalidateOne (l.block % 4)

/-- A read of an on-chip agent at an address: a miss at a cacheable one, of no device bank, fetches the block into a line
(R106, R97). -/
def State.readMiss (s : State) (a : Word) : State :=
  if s.fetchable a && !s.cache.holds (blockOf a) then { s with cache := s.cache.fill s.mem (blockOf a) } else s

/-! ## Physical reads and writes -/

/-- The byte at a physical address. -/
abbrev State.byteAt (s : State) (a : Word) : Byte := s.mem.read a.toNat

/-- The word at a physical word-aligned address. -/
abbrev State.wordAt (s : State) (a : Word) : Word := s.mem.word a

/-- What a device load finds of the word at an address (R111: made to external memory): the cache's own word where that
is dirty, so that the last value written is read (R110 (a)); else what external memory holds (log 15, DESIGN
CHOICE). -/
def State.devWord (s : State) (a : Word) : Word :=
  match s.cache.lines.find? fun l => l.block == blockOf a with
  | some l => if l.dirty.get (wordInBlock a) then s.wordAt a else l.ext.get (wordInBlock a)
  | Option.none => s.wordAt a

/-- The byte that a load finds at a physical address: `dev` for a device load. -/
def State.byteFor (s : State) (dev : Bool) (a : Word) : Byte :=
  if dev then byteOf (s.devWord (wordAddr a)) (a &&& 3#32).toNat else s.byteAt a

/-- A store that reaches memory: `f` writes the bytes. -/
def State.storeMem (s : State) (dev : Bool) (a : Word) (f : Memory → Memory) : State :=
  if s.takes dev a then
    { s with mem := f s.mem, cache := s.cacheStore dev a f, prefetch := s.prefetchWrite a }
  else s

/-- A whole word written by the CPU; `dev` for a device access. -/
def State.putWord (s : State) (dev : Bool) (a v : Word) : State :=
  { s.storeMem dev a (fun m => m.writeWord a v) with ws := s.ws.wordWritten s.r.physWptr a }

/-- A sixteen-bit object written by the CPU. -/
def State.putHalf (s : State) (dev : Bool) (a : Word) (v : Half) : State :=
  { s.storeMem dev a (fun m => m.writeHalf a v) with ws := s.ws.partWritten s.r.physWptr (wordAddr a) }

/-- A byte written by the CPU. -/
def State.putByte (s : State) (dev : Bool) (a : Word) (v : Byte) : State :=
  { s.storeMem dev a (fun m => m.write a.toNat v) with ws := s.ws.partWritten s.r.physWptr (wordAddr a) }

/-- The last byte of a whole word has been written by a block copy: the word's slot of the workspace cache is valid
(R104). -/
def State.wordCopied (s : State) (whole : Bool) (a : Word) : State :=
  if whole then { s with ws := s.ws.wordWritten s.r.physWptr (wordAddr a) } else s

/-- A whole word written by another agent (VCP, timer, control unit). -/
def State.agentPut (s : State) (a v : Word) : State :=
  { s.storeMem false a (fun m => m.writeWord a v) with ws := s.ws.agentWritten s.r.physWptr a (s.mem.word a) }

/-- A byte written by another agent. -/
def State.agentPutByte (s : State) (a : Word) (v : Byte) : State :=
  { s.storeMem false a (fun m => m.write a.toNat v) with
    ws := s.ws.agentWritten s.r.physWptr (wordAddr a) (s.mem.word (wordAddr a)) }

/-! ## The accesses of the machine's own mechanisms -/

/-- Note the first thing that stops this step (log 30, DESIGN CHOICE). -/
def State.note (s : State) (t : Trouble Fault) : State :=
  match s.trouble with
  | Option.none => { s with trouble := some t }
  | some _ => s

/-- Note trouble where a condition holds. -/
def State.noteIf (s : State) (c : Bool) (t : Trouble Fault) : State := if c then s.note t else s

/-- A load of the CPU: a device load is made to external memory and fetches no block (R111; log 15, DESIGN CHOICE). -/
def State.loadMiss (s : State) (dev : Bool) (a : Word) : State := if dev then s else s.readMiss a

/-- What an access does to the main cache before it is made: a read miss fetches a block; a write sees to itself. -/
def State.reach (s : State) (wr : Bool) (a : Word) : State := if wr then s else s.readMiss a

/-- An access of the CPU's own mechanisms (scheduler, traps): an address nothing decodes stops the machine
(60_exceptions.md R742 (a)). -/
def State.touch (s : State) (wr : Bool) (a : Word) : State := (s.noteIf (!s.legal false wr a) (.illegal a)).reach wr a

/-- An access of the VCP, a timer or the control unit: R742 (b). -/
def State.agentTouch (s : State) (wr : Bool) (a : Word) : State := (s.noteIf (!s.legal false wr a) (.pmi a)).reach wr a

/-- Every one of some successive bytes is touched by the CPU's own mechanisms. -/
def State.touchBytes (s : State) (wr : Bool) (a : Word) : Nat → State
  | 0 => s
  | n + 1 => (s.touch wr a).touchBytes wr (a + 1) n

/-- Every one of some successive bytes is touched by another agent. -/
def State.agentTouchBytes (s : State) (wr : Bool) (a : Word) : Nat → State
  | 0 => s
  | n + 1 => (s.agentTouch wr a).agentTouchBytes wr (a + 1) n

/-- A word written by the CPU's own mechanisms. -/
def State.mput (s : State) (a v : Word) : State := (s.touch true a).putWord false a v

/-- A word written by another agent. -/
def State.aput (s : State) (a v : Word) : State := (s.agentTouch true a).agentPut a v

/-- Successive bytes written by another agent. -/
def State.aputBytes (s : State) (a : Word) : List Byte → State
  | [] => s
  | v :: vs => ((s.agentTouch true a).agentPutByte a v).aputBytes (a + 1) vs

end Sys2Proof.Machine
end

