-- ==== Sys2Proof/Machine/Reset.lean ====
section
/-! DEFINITION. Reset: reset levels, the start of execution, halting and system errors
(70_reset_and_hazards.md R770 to R786, 60_exceptions.md R740 to R745). -/

namespace Sys2Proof.Machine

/-! ## Undefined registers -/

/-- The integer stack undefined. -/
def State.undefStack (s : State) : State :=
  { s with
    r := { s.r with areg := s.drawn 0, breg := s.drawn 1, creg := s.drawn 2 }
    draws := s.draws + 3 }

/-- The integer and the floating-point stack undefined ("stacks undefined"). -/
def State.undefStacks (s : State) : State :=
  { s with
    r := { s.r with
      areg := s.drawn 0, breg := s.drawn 1, creg := s.drawn 2
      fpA := freeEntry (s.draws + 3), fpB := freeEntry (s.draws + 4), fpC := freeEntry (s.draws + 5) }
    draws := s.draws + 6 }

/-- The stacks and the rounding mode undefined. -/
def State.undefFloat (s : State) : State :=
  let t := s.undefStacks
  { t with r := { t.r with round := (t.drawn 0).setWidth 2 }, draws := t.draws + 1 }

/-- The stacks, the rounding mode and the block move registers undefined: what a descheduling or timeslicing point leaves
though the process goes on (45_floating_point.md R521, 41_control_blockmove.md R292). -/
def State.undefPoint (s : State) : State :=
  let t := s.undefFloat
  { t with r := { t.r with bm0 := t.drawn 0, bm1 := t.drawn 1, bm2 := t.drawn 2 }, draws := t.draws + 3 }

/-- Every register of a set undefined, from the `n`-th draw on: what the shadow registers hold when no process is
interrupted (42_process_sched.md R340, R343). -/
def drawnRegs (n : Nat) : Regs :=
  let w (i : Nat) : Word := Config.freeWord (n + i)
  { status := w 0, wdesc := w 1, iptr := w 2, areg := w 3, breg := w 4, creg := w 5, th := w 6
    round := (w 7).setWidth 2, fpA := freeEntry (n + 8), fpB := freeEntry (n + 9), fpC := freeEntry (n + 10)
    bm0 := w 11, bm1 := w 12, bm2 := w 13, wl := w 14, wu := w 15, ereg := w 16, xreg := w 17, eptr := w 18
    region := ⟨w 19, w 20, w 21, w 22⟩, pstate := w 23, wstub := w 24, midInstr := false }

/-- How many draws a set of registers takes. -/
abbrev regDraws : Nat := 25

/-- What a process finds undefined when it is loaded for execution (42_process_sched.md R326, R328, 45 R521). -/
def State.undefProcess (s : State) : State :=
  { s with
    r := { s.r with
      areg := s.drawn 0, breg := s.drawn 1, creg := s.drawn 2
      fpA := freeEntry (s.draws + 3), fpB := freeEntry (s.draws + 4), fpC := freeEntry (s.draws + 5)
      round := (s.drawn 6).setWidth 2
      bm0 := s.drawn 7, bm1 := s.drawn 8, bm2 := s.drawn 9
      ereg := s.drawn 10, xreg := s.drawn 11, eptr := s.drawn 12, wl := s.drawn 13, wu := s.drawn 14
      midInstr := false }
    draws := s.draws + 15 }

/-! ## Errors and the control link (R745, 47_vcp_config.md R697) -/

/-- The error codes by priority, highest first (R745). -/
def errorPriority : List Byte := [0xC0#8, 0xC1#8, 0xC2#8, 0x80#8, 0x81#8, 0x82#8, 0x83#8, 0x01#8, 0x02#8, 0x03#8]

/-- A message put in the output buffer of CLink0 behind the return header; it is to be acknowledged (R697). -/
def Control.send (c : Control) (m : Message) : Control :=
  { c with up := c.up ++ [(c.returnHeader.getD 0#16, m)], unacked := c.unacked + 1 }

/-- An error message goes out when every error sent has been handshaken and every message acknowledged
(R697), the highest priority first; none before a Start has given a return header (R691). -/
def Control.sendErrors (c : Control) : Control :=
  if c.errorSent.isNone && c.unacked == 0 && c.returnHeader.isSome then
    match errorPriority.find? fun e => c.errors.contains e with
    | some e => { (c.send (.error e)) with errorSent := some e }
    | none => c
  else c

/-- One record for each error code (R745). -/
def Control.recordError (c : Control) (code : Byte) : Control :=
  if c.errors.contains code then c else { c with errors := code :: c.errors }

/-! ## Reset levels (R772 to R778) -/

/-- External memory's own content comes back where dirty lines are lost, and the on-chip RAM holds anything
(R777, 20_memory.md R108; log 12, DESIGN CHOICE). -/
def State.discardCache (s : State) : State :=
  let m := revertLines s.mem s.cache.lines
  { s with
    mem := m.fill mostNeg (Config.freeByte s.draws) 0x4000
    cache := { s.cache with lines := [], locked := [], ramSize := 0#2 }
    draws := s.draws + 1 }

/-- The event pairs after a reset: EventOut low, empty; EventIn is the environment's. -/
def EventPair.afterReset (e : EventPair) : EventPair := { EventPair.reset with inLevel := e.inLevel }

/-- Every one of four changed alike. -/
def Quad.map {α : Type} (q : Quad α) (f : α → α) : Quad α := ⟨f q.q0, f q.q1, f q.q2, f q.q3⟩

/-- The CPU cleared at levels 0, 1 and 2 (R775, R778 (d)). -/
def State.clearCpu (s : State) : State :=
  { s with
    r := Regs.reset, sh := Regs.shadowReset, shadowValid := false, oreg := 0#32, inChain := false
    hi := Sched.reset, lo := Sched.reset, clockRunning := false, tickPhase := 0#8, tsCount := 0
    intEnabled := true, ws := WsCache.invalid, prefetch := [], descheduled := [], temps := [] }

/-- The control unit after a reset of level 1 or 2: error and handshake state cleared, acknowledge state kept (R778,
R779). -/
def Control.afterReset (c : Control) : Control :=
  { c with gross := .ready, inProgress := none, errors := [], errorSent := none, bootRemaining := 0#32 }

/-- A control link after a reset of level 1: it stays as started as it is, its registers return to their level 0
values (R770, R776). -/
def Link.kept (l : Link) : Link :=
  { Link.reset with started := l.started, tokenReceived := l.tokenReceived, resetOutputDone := l.resetOutputDone }

/-- The VCP after a reset by the control unit of level 0 or 1: empty, and in its resetting mode until the fixed time has passed
(47_vcp_config.md R643); then it waits, as R772 has it. -/
def Vcp.afterReset : Vcp := { Vcp.reset with mode := .resetting }

/-- Reset to level 1 (R777, R778): everything but the label, the return header, the acknowledge state and the activity
of the control links (log 35, DEDUCED). -/
def State.reset1 (s : State) : State :=
  let s := s.discardCache.clearCpu
  { s with
    conf := Conf.reset, links := .all Link.reset, clink0 := s.clink0.kept, clink1 := s.clink1.kept
    vcp := Vcp.afterReset
    events := s.events.map EventPair.afterReset
    rcTails := []
    ctl := s.ctl.afterReset }

/-- A data link's VCP registers and error latches after a reset of the VCP: no guaranteed value of the registers
(R778 (c), 47_vcp_config.md R643). Its write lock is not the VCP's to clear (10_state.md R73). -/
def Link.vcpCleared (l : Link) (w : Nat → Word) : Link :=
  { l with
    linkError := false, parityError := false, discError := false
    vcpMode := (w 0).setWidth 3, maxHeader := (w 1).setWidth 16, minHeader := (w 2).setWidth 16
    hdrOffset := (w 3).setWidth 16 }

/-- A link after a reset of level 2: its mode and activity kept, its write lock and error latches clear (R778 (b), (e),
(f)). -/
def Link.cleared (l : Link) : Link :=
  { l with writeLock := false, linkError := false, parityError := false, discError := false }

/-- The VCP and its registers after a reset of the VCP: queues empty (47_vcp_config.md R643), the registers of the links any
values, and the record of an erroneous packet clear as at level 2 (R778 (f); log 35, DEDUCED). -/
def State.clearVcp (s : State) : State :=
  { s with
    vcp := { s.vcp with mode := .resetting, stopSignalled := false, links := .all LinkQueues.empty }
    links := ⟨s.links.q0.vcpCleared s.drawn, s.links.q1.vcpCleared fun i => s.drawn (4 + i),
      s.links.q2.vcpCleared fun i => s.drawn (8 + i), s.links.q3.vcpCleared fun i => s.drawn (12 + i)⟩
    conf := { s.conf with vcpStatus := 0#32, vcpStatusSet := false }
    draws := s.draws + 16 }

/-- Reset to level 2 (R778): the CPU, the VCP, the event channels and the errors cleared; the configuration and the PMI
kept (log 35, DEDUCED). -/
def State.reset2 (s : State) : State :=
  let s := s.clearCpu.clearVcp
  { s with
    conf := { s.conf with
      chanWriteLock := false, pmiWriteLock := false, sysServWriteLock := false, errorCode := 0#8 }
    links := s.links.map Link.cleared
    clink0 := s.clink0.cleared
    clink1 := s.clink1.cleared
    events := s.events.map EventPair.afterReset
    ctl := s.ctl.afterReset }

/-- Reset to level 3 (R778 (d)): the processor halts; its registers but the stacks and the rounding mode keep their
values. -/
def State.reset3 (s : State) : State :=
  let u := s.undefFloat
  { u with
    oreg := 0#32, inChain := false, intEnabled := true, ws := WsCache.invalid, prefetch := []
    ctl := { s.ctl with gross := .ready, inProgress := none, errorSent := none, bootRemaining := 0#32 } }

/-! ## Start of execution (R780, R781, R786) -/

/-- The boot state block: the CPU's state when it last stopped, at the new workspace (R786). -/
def State.writeStateBlock (s : State) (old : Regs) (reason et w : Word) : State :=
  let t := (((((((s.aput w old.wdesc).aput (atw w 1) old.iptr).aput (atw w 2) (controlWord old.status (s.drawn 0))).aput
    (atw w 3) old.th).aput (atw w 4) reason).aput (atw w 5) et).aput (atw w 6) old.eptr)
  { t with draws := t.draws + 1 }

/-- A high priority L-process starts with the Wptr and Iptr in InitialWptr and InitialIptr (R780); interrupts are enabled
(10_state.md R37 (b); log 35, DEDUCED). -/
def State.startExec (s : State) (old : Regs) (reason et wptr iptr : Word) : State :=
  let w := wordAddr wptr
  let s := { s with conf := { s.conf with initialWptr := w, initialIptr := iptr } }
  let s := (s.writeStateBlock old reason et w).undefProcess
  { s with
    r := { s.r with wdesc := w, iptr := iptr, status := defaultControl, th := notProcess }
    conf := { s.conf with reason := s.drawn 0, emiBadAddress := s.drawn 1 }
    ctl := { s.ctl with gross := .running }
    oreg := 0#32, inChain := false, intEnabled := true, ws := WsCache.invalid, prefetch := []
    draws := s.draws + 2 }

/-- Start with Iptr and Wptr from the top of the boot bank (R781). -/
def State.startFromRom (s : State) (old : Regs) (reason et : Word) : State :=
  let s := (s.agentTouch false 0x7FFFFFF8#32).agentTouch false 0x7FFFFFFC#32
  s.startExec old reason et (s.wordAt 0x7FFFFFFC#32) (s.wordAt 0x7FFFFFF8#32)

/-- The control unit after a hard reset: its links are reset and their buffers empty (R772). The acknowledges still to come
are not lost from its state (R778), but no later message waits for them (47_vcp_config.md R697) (log 35, DEDUCED). -/
def Control.hardReset (c : Control) : Control := { Control.reset with ignored := c.ignored + c.unacked }

/-- Hard reset, level 0 (R772), StartFromROM being sampled (R781). The VCP is in its resetting mode for the fixed time of
47_vcp_config.md R643; `State.reset` is the state when that has passed (log 35, DEDUCED). -/
def State.hardReset (s : State) (startFromRom : Bool) : State :=
  let d := s.discardCache
  let s0 := { State.reset with
    mem := d.mem, cache := d.cache, draws := d.draws, agenda := s.agenda, events := s.events.map EventPair.afterReset
    vcp := Vcp.afterReset, ctl := s.ctl.hardReset }
  if startFromRom then s0.startFromRom s0.r s0.conf.reason s0.ctl.haltError else s0

/-! ## Halting (60_exceptions.md R740, R742, R745) -/

/-- The stand-alone reboot (R786): the state captured, ErrorSinceReset set, the subsystems reset, the boot
bank back, and the ROM started. -/
def State.standAloneReboot (s : State) : State :=
  let old := s.r
  let reason := s.conf.reason
  let et := s.ctl.haltError
  let t := if Config.standAloneLevelOne then s.reset1 else s.reset2
  let t := { t with conf := { t.conf with errorSinceReset := true, bootRemapped := false } }
  t.startFromRom old reason et

/-- The CPU executes: it has been started and has not been stopped (47_vcp_config.md R692). -/
def State.cpuRuns (s : State) : Bool := s.ctl.gross == .running || s.ctl.gross == .stopping

/-- A stop of the CPU that is no error: the error type it leaves, and with a control-link error its reason, are any value
(R786; log 31, DESIGN CHOICE). -/
def State.stopFree (s : State) (reason : Word) : State :=
  { s with conf := { s.conf with reason := reason }, ctl := { s.ctl with haltError := s.drawn 0 }, draws := s.draws + 1 }

/-- A control-link error: recorded and reported, the CPU going on (R745 class 1); in stand-alone mode the ROM is
started instead (class 3, R786). -/
def State.clinkError (s : State) (code : Byte) : State :=
  let s := { s with conf := { s.conf with errorCode := code } }
  if !s.conf.standAloneMode then { s with ctl := (s.ctl.recordError code).sendErrors }
  else if s.cpuRuns then ({ s with draws := s.draws + 1 }.stopFree (s.drawn 0)).standAloneReboot
  else s.standAloneReboot

/-- A system error (R745): the CPU stops, ErrorSinceReset is set, and an Error message goes up CLink0 or, in
stand-alone mode, the ROM is started. -/
def State.systemError (s : State) (code : Byte) : State :=
  let s := { s with conf := { s.conf with errorSinceReset := true, errorCode := code } }
  if s.conf.standAloneMode then s.standAloneReboot
  else { s with ctl := { (s.ctl.recordError code).sendErrors with gross := .error } }

/-- The processor halts with a reason and an error type (R740). -/
def State.halt (s : State) (reason et : Word) (code : Byte) : State :=
  let s := { s with
    conf := { s.conf with reason := reason }, ctl := { s.ctl with haltError := et }, oreg := 0#32, inChain := false }
  s.systemError code

/-- A system error that is no trap halts the processor: R740 and R786 give it no error type, which is any value. Of a
processor that has stopped already the reason and the error type of that stop stay (R786; log 31, DESIGN CHOICE). -/
def State.haltRunning (s : State) (reason : Word) (code : Byte) : State :=
  if s.cpuRuns then { s with draws := s.draws + 1 }.halt reason (s.drawn 0) code else s.systemError code

/-- The control unit signals an error to the VCP, which discards packets from then on, in any mode but resetting
(47_vcp_config.md R643). A CPU error (#01) is none: the VCP keeps its state (R740; log 31, DESIGN CHOICE). -/
def State.discarding (s : State) : State :=
  { s with vcp := { s.vcp with mode := if s.vcp.mode = VcpMode.resetting then .resetting else .discarding } }

/-- An illegal access signalled by the CPU: the processor halts, the address in EmiBadAddress (R742 (a)). -/
def State.memHalt (s : State) (a : Word) : State :=
  ({ s with conf := { s.conf with emiBadAddress := a } }).haltRunning Config.reasonExternalMemory 0x01#8

/-- An illegal access signalled by the PMI: the processor halts, the address in ErrorAddress (R742 (b)), and the VCP discards
(47_vcp_config.md R643). -/
def State.pmiHalt (s : State) (a : Word) : State :=
  ({ s with conf := { s.conf with pmiErrorAddress := wordAddr a } }).discarding.haltRunning Config.reasonHalted 0x03#8

/-- The end of a step: what a mechanism ran into stops the machine, else this is the next state
(log 30, DESIGN CHOICE). -/
def State.done (s : State) : Out :=
  match s.trouble with
  | none => .next s
  | some (.illegal a) => .next { ({ s with trouble := none }).memHalt a with trouble := none }
  | some (.pmi a) => .next { ({ s with trouble := none }).pmiHalt a with trouble := none }
  | some (.refuse f) => .fault f

end Sys2Proof.Machine
end

