-- ==== Sys2Proof/Machine/Operands.lean ====
section
/-! DEFINITION. Operands: the forms in which an instruction takes its operands and leaves its results: the
integer and the floating-point evaluation stack (00_scope.md R13, 45_floating_point.md R512), the workspace
pointer, and the address alignment (20_memory.md R84). -/

namespace Sys2Proof.Machine

/-! ## The integer stack (R13) -/

/-- `push(v)`. -/
def State.push (s : State) (v : Word) : State :=
  { s with r := { s.r with areg := v, breg := s.r.areg, creg := s.r.breg } }

/-- `pop1`. -/
def State.pop1 (s : State) : State :=
  { s with r := { s.r with areg := s.r.breg, breg := s.r.creg, creg := s.drawn 0 }, draws := s.draws + 1 }

/-- `pop2`. -/
def State.pop2 (s : State) : State :=
  { s with r := { s.r with areg := s.r.creg, breg := s.drawn 0, creg := s.drawn 1 }, draws := s.draws + 2 }

/-- Areg replaced, the others unchanged. -/
def State.setA (s : State) (v : Word) : State := { s with r := { s.r with areg := v } }

/-- The result of a dyadic instruction: Areg is the result, Breg takes Creg, Creg is undefined. -/
def State.dyadic (s : State) (v : Word) : State :=
  { s with r := { s.r with areg := v, breg := s.r.creg, creg := s.drawn 0 }, draws := s.draws + 1 }

/-- The result of a triadic instruction with two results: Areg and Breg are the results, Creg is undefined. -/
def State.twoResults (s : State) (a b : Word) : State :=
  { s with r := { s.r with areg := a, breg := b, creg := s.drawn 0 }, draws := s.draws + 1 }

/-- The result of a triadic instruction with one result: Breg and Creg are undefined. -/
def State.oneResult (s : State) (a : Word) : State :=
  { s with r := { s.r with areg := a, breg := s.drawn 0, creg := s.drawn 1 }, draws := s.draws + 2 }

/-- `Areg' ← a; Breg' ← b` with Creg unchanged. -/
def State.setAB (s : State) (a b : Word) : State := { s with r := { s.r with areg := a, breg := b } }

/-- `Areg' ← a; Breg' ← b; Creg' ← c`. -/
def State.setABC (s : State) (a b c : Word) : State := { s with r := { s.r with areg := a, breg := b, creg := c } }

/-! ## The floating-point stack (45_floating_point.md R512) -/

/-- `fppush(e)`. -/
def State.fpush (s : State) (e : FpEntry) : State :=
  { s with r := { s.r with fpA := e, fpB := s.r.fpA, fpC := s.r.fpB } }

/-- `fppop1`. -/
def State.fpop1 (s : State) : State :=
  { s with r := { s.r with fpA := s.r.fpB, fpB := s.r.fpC, fpC := freeEntry s.draws }, draws := s.draws + 1 }

/-- `fppop2`. -/
def State.fpop2 (s : State) : State :=
  { s with
    r := { s.r with fpA := s.r.fpC, fpB := freeEntry s.draws, fpC := freeEntry (s.draws + 1) }
    draws := s.draws + 2 }

/-- FPAreg replaced. -/
def State.setFpA (s : State) (e : FpEntry) : State := { s with r := { s.r with fpA := e } }

/-- The result of a dyadic floating-point operation. -/
def State.fdyadic (s : State) (e : FpEntry) : State :=
  { s with r := { s.r with fpA := e, fpB := s.r.fpC, fpC := freeEntry s.draws }, draws := s.draws + 1 }

/-- The rounding mode set. -/
def State.setRound (s : State) (m : BitVec 2) : State := { s with r := { s.r with round := m } }

/-- RoundMode goes back to nearest, as at the end of every floating-point instruction but the setters and
`fpldall` (R514). -/
def State.nearest (s : State) : State := s.setRound 1#2

/-! ## Pointers -/

/-- Iptr replaced: a taken transfer of control (70_reset_and_hazards.md R805). -/
def State.setIptr (s : State) (a : Word) : State := { s with r := { s.r with iptr := a }, prefetch := [] }

/-- Wptr replaced, the priority bit unchanged (10_state.md R24); new words of the workspace range are not
cached (20_memory.md R104). -/
def State.setWptr (s : State) (w : Word) : State :=
  let r := { s.r with wdesc := wordAddr w ||| (s.r.wdesc &&& 1#32) }
  { s with r := r, ws := s.ws.adjusted s.r.wptr (wordAddr w) r.physWptr }

/-- Priority (R24): true for low. -/
abbrev Regs.low (r : Regs) : Bool := r.wdesc.getLsbD 0

/-- The priority as a word. -/
abbrev Regs.priority (r : Regs) : Word := r.wdesc &&& 1#32

/-- The processor is idle (10_state.md R23). -/
abbrev Regs.idle (r : Regs) : Bool := r.wdesc == notProcess

/-- The address of a word of the workspace. -/
abbrev Regs.slot (r : Regs) (n : Int) : Word := atw r.wptr n

/-- FPstatusReg (45_floating_point.md R512) as a word. -/
def Regs.fpStatus (r : Regs) : Word :=
  r.round.setWidth 32 ||| (if r.fpA.dbl then 0x4#32 else 0#32) ||| (if r.fpB.dbl then 0x10#32 else 0#32) |||
    (if r.fpC.dbl then 0x40#32 else 0#32)

/-- The low word of a floating-point register. -/
abbrev FpEntry.lo (e : FpEntry) : Word := e.bits.setWidth 32

/-- The high word of a floating-point register. -/
abbrev FpEntry.hiWord (e : FpEntry) : Word := (e.bits >>> 32).setWidth 32

/-- A double of two words (R511). -/
abbrev dwordOf (hi lo : Word) : Dword := hi ++ lo

/-- A single as an entry. -/
abbrev single (w : Word) : FpEntry := ⟨false, w.setWidth 64⟩

/-- A double as an entry. -/
abbrev double (d : Dword) : FpEntry := ⟨true, d⟩

/-! ## The floating-point state data structure (10_state.md R48, 46 R545, R581) -/

/-- The seven words of the floating-point state; the upper word of a single is none of them. -/
def Regs.fpWords (r : Regs) : List (Option Word) :=
  let two (e : FpEntry) : List (Option Word) := [some e.lo, if e.dbl then some e.hiWord else none]
  some r.fpStatus :: (two r.fpA ++ two r.fpB ++ two r.fpC)

/-- Entry `k` loaded from two words under the status word `st`; `n` is a draw for a reserved type (R512). -/
def fpSlot (st : Word) (k : Nat) (lo hi : Word) (n : Nat) : FpEntry :=
  if st.getLsbD (3 + 2 * k) then freeEntry n
  else if st.getLsbD (2 + 2 * k) then double (dwordOf hi lo)
  else single lo

end Sys2Proof.Machine
end

