-- ==== Sys2Proof/Machine/Ops.lean ====
section
/-! DEFINITION. Ops: taking a trap and returning from one, signals, the end of an instruction, and the
accesses an instruction makes to memory (60_exceptions.md R703 to R731, 20_memory.md R84, R104, R122,
44_protection_trap.md R467, R484). -/

namespace Sys2Proof.Machine

/-! ## Control words (10_state.md R30, R31) -/

/-- StatusReg loaded from a control word: the bits of R30's table; bit 31 is not loaded, and a reserved bit
that is set leaves that bit any value (93 section 1.1) (log 28, DESIGN CHOICE). -/
def loadControl (w free : Word) : Word :=
  let reserved := w &&& reservedBits
  if reserved = 0#32 then w &&& statusMask else (w &&& statusMask) ||| (reserved &&& free)

/-- th.Cntl of a handler written from StatusReg; sb.ThInUse keeps its value (42_process_sched.md R326). -/
def State.saveStatus (s : State) : State :=
  if s.r.th = notProcess then s
  else
    let t := s.mput s.r.th (controlWord s.r.status (s.drawn 0) ||| (s.wordAt s.r.th &&& thInUse))
    { t with draws := t.draws + 1 }

/-- Bounds a control word may not enable (44_protection_trap.md R484). -/
def badBounds (wl wu : Word) : Bool := wl &&& 3#32 != 0#32 || wu &&& 3#32 != 0#32 || wu.slt wl

/-- WlReg and WuReg loaded from a structure where the control word just loaded enables the watchpoint
(10_state.md R28): `p` and `q` are the addresses of the two bounds. -/
def State.loadBounds (s : State) (p q : Word) : State :=
  if bitOf s.r.status sbWtchPntEnbl then
    let t := (s.touch false p).touch false q
    let t := t.noteIf (badBounds (s.wordAt p) (s.wordAt q)) (.refuse .watchBounds)
    { t with r := { t.r with wl := s.wordAt p, wu := s.wordAt q } }
  else s

/-- StatusReg loaded from the control word of a handler, or the default control word for the null handler. No such load
sets sb.IsPprocessBit (44_protection_trap.md R450). -/
def State.loadStatus (s : State) (th : Word) : State :=
  if th = notProcess then { s with r := { s.r with status := defaultControl } }
  else
    let t := s.touch false th
    let t := { t with
      r := { t.r with status := clearBit (loadControl (s.wordAt th) (s.drawn 0)) sbIsPprocessBit }, draws := s.draws + 1 }
    t.loadBounds (atw th 5) (atw th 6)

/-! ## Taking a trap (60_exceptions.md R720, R724, R730) -/

/-- What a trap saves (R730): whether the instruction pointer is saved, whether what is saved of it and of
the stack is undefined. -/
structure Saves where
  iptr : Bool
  iptrFree : Bool
  stackFree : Bool
  deriving DecidableEq, Repr

/-- Classes A, B, D and E: the state after the instruction. -/
def Saves.after : Saves := ⟨true, false, false⟩
/-- Class C: a trap in place of running the next process. -/
def Saves.descheduled : Saves := ⟨true, true, true⟩
/-- Class F: a non-restartable error (log 24, DEDUCED). -/
def Saves.error : Saves := ⟨true, false, true⟩
/-- Class G: a restartable error. -/
def Saves.before : Saves := ⟨false, false, false⟩
/-- Class H: a memory semantics error. -/
def Saves.memSem : Saves := ⟨false, false, true⟩

/-- Write the workspace pointer, the instruction pointer and the integer stack of the trapped process into
five successive words from `p`, and EptrReg at `e` (R720, R724). -/
def State.saveTrapped (s : State) (sv : Saves) (p e : Word) : State :=
  let r := s.r
  let s := s.mput p r.wptr
  let s := if sv.iptr then s.mput (atw p 1) (orFree (!sv.iptrFree) r.iptr (s.drawn 0)) else s
  let s := s.mput (atw p 2) (orFree (!sv.stackFree) r.areg (s.drawn 1))
  let s := s.mput (atw p 3) (orFree (!sv.stackFree) r.breg (s.drawn 2))
  let s := s.mput (atw p 4) (orFree (!sv.stackFree) r.creg (s.drawn 3))
  let s := s.mput e r.eptr
  { s with draws := s.draws + 4 }

/-- Trap entry of an L-process with a trap-handler (R720). -/
def State.trapL (s : State) (sv : Saves) (reason et : Word) : State :=
  let t := s.r.th
  let s := s.saveTrapped sv (atw t 7) (atw t 4)
  let s := s.mput t (controlWord (clearBit s.r.status sbWtchPntPend) (s.drawn 0) ||| thInUse)
  let s := s.touch false (atw t 1)
  let entry := s.wordAt (atw t 1)
  let s := s.setWptr t
  { s with
    r := { s.r with
      iptr := entry, th := notProcess, status := defaultControl
      areg := reason, breg := et, creg := s.drawn 1
      wl := s.drawn 2, wu := s.drawn 3, eptr := s.drawn 4, ereg := s.drawn 5, xreg := s.drawn 6
      midInstr := false }
    intEnabled := true
    prefetch := []
    descheduled := s.descheduled.filter (· != t)
    draws := s.draws + 7 }

/-- Trap entry of a P-process: its supervisor resumes (R724) (log 50, DEDUCED). -/
def State.trapP (s : State) (sv : Saves) (reason et : Word) : State :=
  let p := s.r.pstate
  let stub := s.r.wstub
  let e := s.r.ereg
  let x := s.r.xreg
  let s := s.saveTrapped sv (atw p 4) (atw p 1)
  let s := s.mput p (controlWord (clearBit s.r.status sbWtchPntPend) (s.drawn 0))
  let s := { s with draws := s.draws + 1 }
  let s := if s.r.midInstr then (s.mput (atw p 9) e).mput (atw p 10) x else s
  let w := stub &&& 0xFFFFFFFC#32
  let s := s.touch false (atw w (-1))
  let entry := s.wordAt (atw w (-1))
  let s := s.loadStatus s.r.th
  { s with
    r := { s.r with
      wdesc := stub, iptr := entry, status := clearBit s.r.status sbIsPprocessBit
      areg := reason, breg := et, creg := s.drawn 0
      wstub := s.drawn 1, eptr := s.drawn 2, ereg := s.drawn 3, xreg := s.drawn 4
      midInstr := false }
    intEnabled := true
    ws := WsCache.invalid
    prefetch := []
    draws := s.draws + 5 }

/-- A trap: to the supervisor of a P-process, to the handler of an L-process, or, with the null handler, a
halt (R716, R720, R724, R740). -/
def State.takeTrap (s : State) (sv : Saves) (reason et : Word) : State :=
  if s.r.isP then s.trapP sv reason et
  else if s.r.th = notProcess then s.halt reason et 0x01#8
  else s.trapL sv reason et

/-- The single-step bit of a state. -/
abbrev Regs.step (r : Regs) : Bool := bitOf r.status sbStepBit

/-- The pending watchpoint bit of a state. -/
abbrev Regs.watch (r : Regs) : Bool := bitOf r.status sbWtchPntPend

/-- The trap of a non-restartable error (class F). An error of an L-process drops a pending watchpoint (D50);
an error that could not be reproduced is a memory semantics error (R735): its error pointer is near to and not before
the instruction (log 27, DESIGN CHOICE). -/
def State.errTrap (s : State) (et : Word) : Out :=
  let reason := trapReason s.r.step .error (s.r.isP && s.r.watch)
  if s.cpuMode = .memSem then
    ({ s with r := { s.r with eptr := s.r.eptr + (s.drawn 0 &&& 0xFFFF#32) }, draws := s.draws + 1 }.takeTrap .memSem reason
      etMemSemError).done
  else (s.takeTrap .error reason et).done

/-- A device instruction never causes a memory semantics error (20_memory.md R111, R735). -/
def State.device (s : State) : State := { s with cpuMode := if s.cpuMode = .memSem then .whole else s.cpuMode }

/-- The trap of a floating-point exception (class E); the state is the one the operation started with, the
instruction pointer and the integer stack as they are now (R733). -/
def State.fpTrap (s : State) (et : Word) : Out :=
  if s.cpuMode = .memSem then s.errTrap et
  else (s.takeTrap .after (trapReason s.r.step .error (s.r.isP && s.r.watch)) et).done

/-- The trap of a restartable error (class G). -/
def State.restartTrap (s : State) (et : Word) : Out :=
  if s.cpuMode = .memSem then s.errTrap et
  else (s.takeTrap .before (trapReason s.r.step .error (s.r.isP && s.r.watch)) et).done

/-- An unconditional trap: `syscall`, `causeerror`, breakpoint, context (class B). The reason of a context trap tells of a
pending watchpoint; the others have no such code (R702): one that a control word has brought (R455 (c)) is dropped where one
of them is the first instruction (log 71, DESIGN CHOICE). -/
def State.explicitTrap (s : State) (kind : TrapKind) (et : Word) (watch : Bool) : Out :=
  (s.takeTrap .after (trapReason s.r.step kind watch) et).done

/-! ## The end of an instruction (R718) -/

/-- A timeslice is due (42_process_sched.md R352). -/
def State.timesliceDue (s : State) : Bool :=
  s.r.low && decide (2 ≤ s.tsCount) && !bitOf s.r.status sbTimesliceDisabledBit && s.intEnabled

/-- The timeslice trap of a P-process (44_protection_trap.md R463); ps.Eptr is undefined. -/
def State.timesliceTrap (s : State) (step : Bool) : Out :=
  ({ s with r := { s.r with eptr := s.drawn 0 }, draws := s.draws + 1 }.takeTrap .after
    (trapReason step .timeslice s.r.watch) etNoError).done

/-- The end of an instruction that `s0` started and that left `s`: the single-step, watchpoint and (for a
P-process) timeslice trap due there, else `s` (R718) (log 62, DEDUCED). -/
def State.finish (s0 s : State) : Out :=
  if s.r.isP && s.timesliceDue then s.timesliceTrap s0.r.step
  else if s0.r.step || s.r.watch then
    (s.takeTrap .after (trapReason s0.r.step .none s.r.watch) etNoError).done
  else s.done

/-! ## Interruptible instructions (41_control_blockmove.md R290) -/

/-- An interrupted instruction: it is to be executed again for what is left (R290, 42_process_sched.md R338). Areg,
Breg, Creg, BMreg0 .. 2 and `e`, in Ereg, hold how far it has come (log 29, DESIGN CHOICE). -/
def State.suspended (s : State) (e : Word) : State :=
  { s with r := { s.r with iptr := s.r.eptr, midInstr := true, ereg := e, xreg := Config.resumeMark } }

/-- An interrupted instruction whose Ereg holds nothing it needs. -/
def State.suspendedFree (s : State) : State := { s with draws := s.draws + 1 }.suspended (s.drawn 0)

/-- An agent comes between the units of the interruptible instruction that the CPU executes. -/
abbrev State.splits (s : State) : Bool :=
  match s.cpuMode with
  | .part _ => true
  | _ => false

/-! ## Signals (R703 to R717) -/

/-- A privileged instruction: in a P-process it signals PrivInstruction and does nothing else (R708). -/
def State.privileged (s : State) (k : Out) : Out :=
  if s.r.isP then { s with r := { s.r with eptr := s.r.iptr } }.restartTrap etPrivInstruction else k

/-- IntegerError (R704). -/
abbrev State.integerError (s : State) : Out := s.errTrap etIntegerError

/-- A check of an instruction: IntegerError unless it holds. -/
def State.check (s : State) (c : Bool) (k : Out) : Out := if c then k else s.integerError

/-- A word address operand (20_memory.md R84): Unalign if it traps, else the re-aligned address. -/
def State.alignW (s : State) (a : Word) (k : Word → Out) : Out :=
  if (a &&& 3#32 != 0#32) && bitOf s.r.status sbUnalignTeBit then s.errTrap etUnalign else k (wordAddr a)

/-- A sixteen-bit address operand (R84). -/
def State.alignH (s : State) (a : Word) (k : Word → Out) : Out :=
  if (a &&& 1#32 != 0#32) && bitOf s.r.status sbUnalignTeBit then s.errTrap etUnalign else k (a &&& 0xFFFFFFFE#32)

/-- The end of an instruction that may overflow: IntegerOverflow (R707) traps, or sets its flag, or there was
none. `s1` is the state with the untrapped result. -/
def State.overflow (s0 : State) (ov : Bool) (s1 : State) : Out :=
  if ov then
    if bitOf s0.r.status sbIntOvTeBit then s0.errTrap etIntegerOverflow
    else s0.finish { s1 with r := { s1.r with status := setBit s1.r.status sbIntOvFlag } }
  else s0.finish s1

/-- The end of a floating-point operation with its signals (R703): `s0` the state the instruction started
with, `pre` the state a trap delivers, `s1` the state with the result. -/
def State.fpResult (s0 pre : State) (sg : FpSig) (s1 : State) : Out :=
  match sg.trap s0.r.status with
  | some et => pre.fpTrap et
  | none => s0.finish ({ s1 with r := { s1.r with status := sg.flags s1.r.status } })

/-! ## Accesses of an instruction to memory (20_memory.md R122, R97) -/

/-- An address that a program may not reach with ordinary loads and stores: below MemStart (20_memory.md R90, D20). -/
def State.belowStart (s : State) (a : Word) : Bool := a.slt s.conf.memStart

/-- A physical address lies in a virtual link control block (10_state.md R51) (log 23, DEDUCED). -/
def State.inVlcb (s : State) (a : Word) : Bool :=
  s.vcp.vlcbs.any fun v => a - (0x80000040#32 + BitVec.ofNat 32 (32 * v.1)) < 32#32

/-- A physical address that a program may not reach (20_memory.md R90, 10_state.md R51). -/
abbrev State.outOfBounds (s : State) (p : Word) : Bool := s.inVlcb p || s.belowStart p

/-- The access check of an instruction: translation and permission, then what decodes the address. -/
def State.withAddr (s : State) (dev : Bool) (k : Access) (a : Word) (f : Word → Out) : Out :=
  match s.r.translate dev k a with
  | .violation => s.errTrap etAccessViolation
  | .invalid => .fault .regionDescriptor
  | .ok p =>
    if s.outOfBounds p then .fault .vlcbMemory
    else if s.legal dev (k == .write) p then f p
    else (s.note (.illegal p)).done

/-- A write of the instruction at a logical address: sb.WtchPntPend is set where the word is watched
(44_protection_trap.md R484) (log 61, DEDUCED). -/
def State.watchWrite (s : State) (a : Word) : State :=
  if bitOf s.r.status sbWtchPntEnbl && !(wordAddr a).slt s.r.wl && !s.r.wu.slt (wordAddr a) then
    { s with r := { s.r with status := setBit s.r.status sbWtchPntPend } }
  else s

/-- Load a word from an aligned address. -/
def State.loadW (s : State) (dev : Bool) (a : Word) (k : State → Word → Out) : Out :=
  s.withAddr dev .read a fun p => k (s.loadMiss dev p) (if dev then s.devWord p else s.wordAt p)

/-- Load a sixteen-bit object from an even address. -/
def State.loadH (s : State) (dev : Bool) (a : Word) (k : State → Half → Out) : Out :=
  s.withAddr dev .read a fun p => k (s.loadMiss dev p) (s.byteFor dev (p + 1#32) ++ s.byteFor dev p)

/-- Load a byte. -/
def State.loadB (s : State) (dev : Bool) (a : Word) (k : State → Byte → Out) : Out :=
  s.withAddr dev .read a fun p => k (s.loadMiss dev p) (s.byteFor dev p)

/-- Store a word to an aligned address. -/
def State.storeW (s : State) (dev : Bool) (a v : Word) (k : State → Out) : Out :=
  s.withAddr dev .write a fun p => k ((s.putWord dev p v).watchWrite a)

/-- Store a sixteen-bit object to an even address. -/
def State.storeH (s : State) (dev : Bool) (a : Word) (v : Half) (k : State → Out) : Out :=
  s.withAddr dev .write a fun p => k ((s.putHalf dev p v).watchWrite a)

/-- Store a byte. -/
def State.storeB (s : State) (dev : Bool) (a : Word) (v : Byte) (k : State → Out) : Out :=
  s.withAddr dev .write a fun p => k ((s.putByte dev p v).watchWrite a)

/-- Successive words with their addresses. -/
def wordsAt (a : Word) : List Word → List (Word × Word)
  | [] => []
  | v :: vs => (a, v) :: wordsAt (a + 4#32) vs

/-- Successive word places of which some are left alone. -/
def someWordsAt (a : Word) : List (Option Word) → List (Word × Word)
  | [] => []
  | some v :: vs => (a, v) :: someWordsAt (a + 4#32) vs
  | none :: vs => someWordsAt (a + 4#32) vs

/-- Every one of some aligned words can be read, and is. -/
def State.reads (s : State) : List Word → (State → Out) → Out
  | [], k => k s
  | a :: as, k => s.withAddr false .read a fun p => (s.readMiss p).reads as k

/-- The word at a logical address that can be read. -/
def State.peek (s : State) (a : Word) : Word := s.wordAt (s.r.place false .read a)

/-- The index of the first of some words whose write would be a violation. -/
def State.firstViolation (s : State) : List (Word × Word) → Nat → Option Nat
  | [], _ => none
  | (a, _) :: ps, i =>
    if s.r.translate false .write a = .violation then some i else s.firstViolation ps (i + 1)

/-- Words stored one after another. -/
def State.storeRun (s : State) : List (Word × Word) → (State → Out) → Out
  | [], k => k s
  | (a, v) :: ps, k => s.storeW false a v fun t => t.storeRun ps k

/-- Store several words. Where an access is a violation part way, any number of the words before it has been
written (60_exceptions.md R709, 93 section 1.2) (log 59, DEDUCED). -/
def State.storeAll (s : State) (ps : List (Word × Word)) (k : State → Out) : Out :=
  match s.firstViolation ps 0 with
  | none => s.storeRun ps k
  | some i =>
    { s with draws := s.draws + 1 }.storeRun (ps.take ((s.drawn 0).toNat % (i + 1))) fun t =>
      t.errTrap etAccessViolation

/-- Store successive words. -/
abbrev State.storeWs (s : State) (a : Word) (vs : List Word) (k : State → Out) : Out := s.storeAll (wordsAt a vs) k

/-- A word written by an instruction that only an L-process can execute, at an aligned address. -/
def State.iput (s : State) (a v : Word) : State :=
  ((s.noteIf (s.inVlcb a) (.refuse .vlcbMemory)).mput a v).watchWrite a

/-- A byte written by an instruction that only an L-process can execute. -/
def State.iputByte (s : State) (a : Word) (v : Byte) : State :=
  (((s.noteIf (s.inVlcb a) (.refuse .vlcbMemory)).touch true a).putByte false a v).watchWrite a

/-- A word written for an instruction by the CPU (`cpu`) or by another agent. -/
def State.putBy (s : State) (cpu : Bool) (a v : Word) : State := if cpu then s.iput a v else s.aput a v

/-- An access for an instruction by the CPU (`cpu`) or by another agent. -/
def State.touchBy (s : State) (cpu wr : Bool) (a : Word) : State := if cpu then s.touch wr a else s.agentTouch wr a

/-- Bytes of a message that has grown too long, or of overlapping blocks, become anything (43_channels_alt.md R384 (d),
D34): `free` is the draw, `i` the place of the first byte, `cpu` tells a write of an instruction from one of the
VCP. -/
def State.scrambleFrom (s : State) (cpu : Bool) (free : Nat) (p : Word) : Nat → Nat → State
  | _, 0 => s
  | i, n + 1 =>
    let v := Config.freeByte free i
    (if cpu then s.iputByte p v else (s.agentTouch true p).agentPutByte p v).scrambleFrom cpu free (p + 1#32) (i + 1) n

/-- A block of `n` bytes that becomes anything. -/
def State.scramble (s : State) (cpu : Bool) (p : Word) (n : Nat) : State :=
  { s with draws := s.draws + 1 }.scrambleFrom cpu s.draws p 0 n

/-- What `ldl` reads (20_memory.md R104, D23): the memory word, or, where another agent has written the word
since its slot was validated, any value it has held since (log 26, DEDUCED). -/
def State.readLocal (s : State) (p : Word) : Word × State :=
  let w := s.r.physWptr
  if !inWorkspace w p then (s.wordAt p, s.readMiss p)
  else if s.ws.valid &&& slotBit p = 0#32 then
    (s.wordAt p, { s.readMiss p with ws := { valid := s.ws.valid ||| slotBit p, stale := s.ws.stale.filter fun e => e.1 != p.toNat } })
  else
    match (s.ws.stale.filter fun e => e.1 == p.toNat).map Prod.snd with
    | [] => (s.wordAt p, s)
    | olds => (((s.wordAt p) :: olds).getD ((s.drawn 0).toNat % (olds.length + 1)) (s.wordAt p),
        { s with draws := s.draws + 1 })

/-- The check of a new Wptr in a P-process (20_memory.md R124): a failure is restartable. `s0` is the state
before the instruction. -/
def State.checkWptr (s0 : State) (w : Word) (k : Out) : Out :=
  match s0.r.translate false .write w with
  | .violation => s0.restartTrap etAccessViolation
  | .invalid => .fault .regionDescriptor
  | .ok _ => k

/-! ## Return from a trap (44_protection_trap.md R467, R455) -/

/-- The trapped process resumes from its handler's structure `t`: the second half of `tret` (R467). -/
def State.returnL (s : State) (t : Word) : State :=
  let s := s.loadStatus t
  let s := ((((s.touch false (atw t 7)).touch false (atw t 8)).touch false (atw t 9)).touch false
    (atw t 10)).touch false (atw t 11)
  let w := s.wordAt (atw t 7)
  let s := s.noteIf (w &&& 3#32 != 0#32) (.refuse .savedWorkspace)
  let s := s.setWptr w
  { s with
    r := { s.r with
      th := t, iptr := s.wordAt (atw t 8), areg := s.wordAt (atw t 9), breg := s.wordAt (atw t 10)
      creg := s.wordAt (atw t 11), ereg := s.drawn 0, xreg := s.drawn 1, eptr := s.drawn 2 }
    prefetch := []
    draws := s.draws + 3 }

/-- A process resumes from the P-state structure at `p`: what `goprot` and `restart` share (R455, R459).
`protect` tells the two apart: a P-process has sb.IsPprocessBit set and cannot disable timeslicing (D46), and needs no
more than its registers to go on inside an instruction (log 29, DESIGN CHOICE). -/
def State.resumePds (s : State) (p : Word) (protect : Bool) : State :=
  let s := (((((((s.touch false p).touch false (atw p 1)).touch false (atw p 4)).touch false (atw p 5)).touch false
    (atw p 6)).touch false (atw p 7)).touch false (atw p 8)).touch false (atw p 9) |>.touch false (atw p 10)
  let w := s.wordAt (atw p 4)
  let s := s.noteIf (w &&& 3#32 != 0#32) (.refuse .savedWorkspace)
  let c := loadControl (s.wordAt p) (s.drawn 0)
  let s := s.noteIf (!protect && bitOf c sbIsPprocessBit) (.refuse .restartProtected)
  let status := if protect then setBit (clearBit c sbTimesliceDisabledBit) sbIsPprocessBit else c
  let t := { s with
    r := { s.r with
      wdesc := wordAddr w ||| (s.r.wdesc &&& 1#32), iptr := s.wordAt (atw p 5)
      areg := s.wordAt (atw p 6), breg := s.wordAt (atw p 7), creg := s.wordAt (atw p 8)
      eptr := s.wordAt (atw p 1), ereg := s.wordAt (atw p 9), xreg := s.wordAt (atw p 10)
      midInstr := !protect && s.wordAt (atw p 10) == Config.resumeMark
      status := status }
    intEnabled := true
    ws := WsCache.invalid
    prefetch := []
    draws := s.draws + 1 }
  t.loadBounds (atw p 2) (atw p 3)

end Sys2Proof.Machine
end

