-- ==== Sys2Proof/Machine/Sched.lean ====
section
/-! DEFINITION. Sched: the scheduler and the timers (42_process_sched.md R320 to R357). -/

namespace Sys2Proof.Machine

/-- The scheduler registers of a priority: true for low. -/
def State.sched (s : State) (low : Bool) : Sched := if low then s.lo else s.hi

/-- The scheduler registers of a priority replaced. -/
def State.setSched (s : State) (low : Bool) (q : Sched) : State := if low then { s with lo := q } else { s with hi := q }

/-! ## The primitives `schedule` and `enqueue` (R322) -/

/-- `enqueue(p, w)`. An illegal store of pw.Link is signalled as an access of the CPU, also where a timer, the VCP or an event
makes the process ready: 20_memory.md R97 does not say whose it is (log 30, DESIGN CHOICE). -/
def State.enqueue (s : State) (low : Bool) (w : Word) : State :=
  let q := s.sched low
  if q.fptr = notProcess then s.setSched low { q with fptr := w, bptr := w }
  else (s.mput (atw q.bptr (-2)) w).setSched low { q with bptr := w }

/-- The word that `schedule` of a process of a priority stores to, where it stores: pw.Link of the last process. -/
def State.linkWritten (s : State) (low : Bool) : Option Word :=
  let q := s.sched low
  if q.fptr = notProcess then none else some (atw q.bptr (-2))

/-- `schedule(d)`. The interrupt it may request, and the dispatch of an idle processor, are taken at the next
interrupt point, which is where `Step` looks for them (R338, log 13, DEDUCED). -/
def State.schedule (s : State) (d : Word) : State := s.enqueue (d.getLsbD 0) (d &&& 0xFFFFFFFC#32)

/-- `schedule(d)` as the effect of an instruction: its store can be watched (44_protection_trap.md R484). -/
def State.scheduleBy (s : State) (d : Word) : State :=
  match s.linkWritten (d.getLsbD 0) with
  | some a => (s.schedule d).watchWrite a
  | none => s.schedule d

/-- `schedule(d)` by the CPU (`cpu`) or by another agent. -/
def State.scheduleFor (s : State) (cpu : Bool) (d : Word) : State := if cpu then s.scheduleBy d else s.schedule d

/-- Insert a queue at the front of a list (R359, 44_protection_trap.md R467). -/
def State.insertFront (s : State) (low : Bool) (f b : Word) : State :=
  let q := s.sched low
  if q.fptr = notProcess then s.setSched low { q with fptr := f, bptr := b }
  else (s.iput (atw b (-2)) q.fptr).setSched low { q with fptr := f }

/-! ## The primitive `run next process` (R328) -/

/-- Append a workspace to the queue of a trap-handler in use (44_protection_trap.md R466). -/
def State.queueOnHandler (s : State) (t w : Word) : State :=
  let s := (s.touch false (atw t 2)).touch false (atw t 3)
  let s := if s.wordAt (atw t 2) = notProcess then s.mput (atw t 2) w
    else s.mput (atw (s.wordAt (atw t 3)) (-2)) w
  s.mput (atw t 3) w

/-- The processor idles: WdescReg holds NotProcess.p (10_state.md R23). -/
def State.goIdle (s : State) : State :=
  let s := s.undefProcess
  { s with r := { s.r with wdesc := notProcess }, ws := WsCache.invalid, prefetch := [] }

/-- Return from interrupt (R339): every state register is copied back from its shadow. What the shadow registers hold
while no process is interrupted is any value (10_state.md R34, 93 section 1.1; log 67, DEDUCED). -/
def State.returnInterrupt (s : State) : State :=
  { s with
    r := s.sh, sh := drawnRegs s.draws, shadowValid := false, intEnabled := true, ws := WsCache.invalid, prefetch := []
    draws := s.draws + regDraws }

/-- Take the front process off a list (R328); the answer is its workspace. -/
def State.dequeue (s : State) (low : Bool) : State :=
  let q := s.sched low
  if q.fptr = q.bptr then s.setSched low { q with fptr := notProcess }
  else (s.touch false (atw q.fptr (-2))).setSched low { q with fptr := s.wordAt (atw q.fptr (-2)) }

/-- Load a process for execution (R328). -/
def State.loadProcess (s : State) (low : Bool) (w : Word) : State :=
  let s := (s.touch false (atw w (-3))).touch false (atw w (-1))
  let t := s.wordAt (atw w (-3))
  let i := s.wordAt (atw w (-1))
  let s := s.undefProcess
  let s := { s with
    r := { s.r with wdesc := w ||| boolWord low, th := t, iptr := i }
    intEnabled := true
    tsCount := if low then 0 else s.tsCount
    ws := WsCache.invalid
    prefetch := [] }
  s.loadStatus t

/-- The handler of a dequeued process is in use (44_protection_trap.md R466). -/
def State.handlerInUse (s : State) (t : Word) : Bool := t != notProcess && bitOf (s.wordAt t) 31

/-- The interrupted null process gives way to the low priority list (R339). -/
def State.dropIdleShadow (s : State) : State :=
  if s.hi.fptr = notProcess ∧ s.shadowValid = true ∧ s.sh.wdesc = notProcess then
    { s with sh := drawnRegs s.draws, shadowValid := false, draws := s.draws + regDraws }
  else s

/-- `run next process`. `fuel` bounds how many processes are passed on to the queues of handlers in use
(log 14, DESIGN CHOICE). After a Stop nothing is dispatched
(47_vcp_config.md R698). -/
def State.runNext (s : State) : Nat → State
  | 0 => s.goIdle
  | fuel + 1 =>
    let s := s.dropIdleShadow
    if s.ctl.gross = .stopping then s.goIdle
    else if s.hi.fptr = notProcess ∧ s.shadowValid = true then s.returnInterrupt
    else if s.hi.fptr = notProcess ∧ s.lo.fptr = notProcess then s.goIdle
    else
      let low := s.hi.fptr == notProcess
      let w := (s.sched low).fptr
      let s := (s.dequeue low).touch false (atw w (-3))
      let t := s.wordAt (atw w (-3))
      let s := if t = notProcess then s else s.touch false t
      if s.handlerInUse t then State.runNext (s.queueOnHandler t w) fuel
      else s.loadProcess low w

/-- As many entries as a list without repetition can have, one for each word of memory; a longer walk follows
a list that leads back into itself, and hardware never ends it (log 14, DESIGN CHOICE). -/
abbrev runFuel : Nat := 1073741823 + 1

/-- Run the next process. -/
def State.runNextProcess (s : State) : State := s.runNext runFuel

/-! ## Leaving the processor (R326, R486) -/

/-- What `deschedule` saves (R326): pw.Iptr, pw.TrapHandler and the status word. -/
def State.saveContext (s : State) : State :=
  ((s.mput (s.r.slot (-1)) s.r.iptr).mput (s.r.slot (-3)) s.r.th).saveStatus

/-- The deschedule trap (44_protection_trap.md R486 (a)): taken by the handler of a process that waits elsewhere, all of
whose other state is lost (R326, 45 R521). -/
def State.descheduleTrap (s : State) (reason : Word) : State :=
  let t := s.undefProcess
  let u := { t with r := { t.r with eptr := s.r.eptr } }.takeTrap .descheduled reason etNoError
  if s.r.th = notProcess then u else { u with descheduled := s.r.th :: u.descheduled }

/-- The current process has left the processor: the next process runs, or, where a single-step or watchpoint
trap is due, the deschedule trap is taken in its place (44_protection_trap.md R486 (a)). -/
def State.leave (s0 s : State) : Out :=
  let s := { s with intEnabled := true }
  if s0.r.step || s.r.watch then (s.descheduleTrap (trapReason s0.r.step .deschedule s.r.watch)).done
  else s.runNextProcess.done

/-- `deschedule` (R326). -/
def State.deschedule (s0 s : State) : Out := s0.leave s.saveContext

/-- A timeslicing point, at `j` and `lend`, after the instruction's own effect (R352); after a Stop the process
leaves here too (47_vcp_config.md R698) (log 46, DEDUCED). -/
def State.timeslicePoint (s0 s : State) : Out :=
  if !s.r.isP && (s.timesliceDue || s.ctl.gross == .stopping) then
    s0.leave ((s.saveContext).enqueue s.r.low s.r.wptr)
  else s0.finish s

/-! ## Interrupts (R338) -/

/-- An interrupt is due (R338): a high priority process is ready while a low priority one or none runs. -/
def State.interruptDue (s : State) : Bool :=
  s.hi.fptr != notProcess && (s.r.low || s.r.idle) && s.intEnabled && !s.shadowValid && s.ctl.gross == .running

/-- Take an interrupt (R338, R340): the state registers go to their shadows and the high priority process runs. Of the
null process only two shadows are stated, the others are any value. -/
def State.takeInterrupt (s : State) : State :=
  if s.r.idle then
    State.runNextProcess { s with
      sh := { drawnRegs s.draws with wdesc := notProcess, status := 0#32 }
      shadowValid := true, draws := s.draws + regDraws }
  else State.runNextProcess { s with sh := s.r, shadowValid := true }

/-! ## Timers (R350, R356) -/

/-- Insert the workspace `w` with time `time` into a timer list, from the place `prev` on: `prev` is the
workspace it may come after (none at the front). Its place among entries of equal time is not stated: any.
`fuel` bounds the walk (log 14, DESIGN CHOICE; log 44, DESIGN CHOICE). -/
def State.timerInsert (s : State) (low : Bool) (w time : Word) : Nat → Option Word → State
  | 0, _ => s
  | fuel + 1, prev =>
    let q := s.sched low
    let next := match prev with
      | none => q.tptr
      | some p => s.wordAt (atw p (-5))
    let s := match prev with
      | none => s
      | some p => s.touch false (atw p (-5))
    let s := if next = notProcess then s else s.touch false (atw next (-6))
    let later := after (s.wordAt (atw next (-6))) time
    let tie := s.wordAt (atw next (-6)) == time && Config.freeBit s.draws
    let s := { s with draws := s.draws + 1 }
    if next != notProcess && !later && !tie then State.timerInsert s low w time fuel (some next)
    else
      let s := s.iput (atw w (-5)) next
      match prev with
      | none => s.setSched low { q with tptr := w, tnext := time }
      | some p => s.iput (atw p (-5)) w

/-- Remove the workspace `w` from a timer list (`dist`, R356). -/
def State.timerRemove (s : State) (low : Bool) (w : Word) : Nat → Option Word → State
  | 0, _ => s
  | fuel + 1, prev =>
    let q := s.sched low
    let here := match prev with
      | none => q.tptr
      | some p => s.wordAt (atw p (-5))
    if here = notProcess then s
    else if here = w then
      let s := s.touch false (atw w (-5))
      let next := s.wordAt (atw w (-5))
      match prev with
      | none =>
        let s := if next = notProcess then s else s.touch false (atw next (-6))
        s.setSched low
          { q with tptr := next, tnext := if next = notProcess then q.tnext else s.wordAt (atw next (-6)) }
      | some p => s.iput (atw p (-5)) next
    else State.timerRemove (s.touch false (atw here (-5))) low w fuel (some here)

/-- One expiry of a timer list (R356, D37). An entry whose pw.State is none of the three breaks the discipline of an
alternative (93 section 1.4): refused (log 51, DEDUCED). -/
def State.timerExpire (s : State) (low : Bool) : State :=
  let q := s.sched low
  let w := q.tptr
  let s := ((s.agentTouch false (atw w (-5))).agentTouch false (atw w (-4)))
  let next := s.wordAt (atw w (-5))
  let s := if next = notProcess then s else s.agentTouch false (atw next (-6))
  let s := s.setSched low
    { q with tptr := next, tnext := if next = notProcess then q.tnext else s.wordAt (atw next (-6)) }
  let state := s.wordAt (atw w (-4))
  if state = enablingP then s.schedule (w ||| boolWord low)
  else if state = waitingP then
    ((s.aput (atw w (-5)) timeSetP).aput (atw w (-4)) readyP).schedule (w ||| boolWord low)
  else if state = readyP then s.aput (atw w (-5)) timeSetP
  else s.note (.refuse .altDiscipline)

/-- A list must be searched by the present instruction, and an agent comes between (41_control_blockmove.md R290). -/
def State.searchSplit (s : State) : Bool := s.splits && (s.sched s.r.low).tptr != notProcess

/-- The front of a timer list has reached its alarm time (R356). -/
def State.timerDue (s : State) (low : Bool) : Bool :=
  let q := s.sched low
  s.clockRunning && s.ctl.gross == .running && q.tptr != notProcess && !after q.tnext q.clock

/-- The timer agent of a priority moves: one expiry, if the front of its list is due (R356: the next is another move, so that
anything can come between; log 6, DESIGN CHOICE). -/
def State.serveTimer (s : State) (low : Bool) : State := if s.timerDue low then s.timerExpire low else s

/-- One microsecond (R350, R352): the clocks and the timeslice period advance once `sttimer` has started them
(log 58, DESIGN CHOICE). -/
def State.tick (s : State) : State :=
  if s.clockRunning then
    let p := s.tickPhase + 1
    { s with
      hi := { s.hi with clock := s.hi.clock + 1 }
      lo := if p &&& 63#8 = 0#8 then { s.lo with clock := s.lo.clock + 1 } else s.lo
      tickPhase := p
      tsCount := if p = 0#8 then s.tsCount + 1 else s.tsCount }
  else s

end Sys2Proof.Machine
end

