-- ==== Sys2Proof/Machine/Chan.lean ====
section
/-! DEFINITION. Chan: channel addresses, the records of external channels, what the virtual channel processor
does when the CPU asks it, resource channels, and the communication on internal channels
(43_channels_alt.md R380 to R440, 47_vcp_config.md R640 to R661). -/

namespace Sys2Proof.Machine

/-! ## Channel addresses (R381, R382, R425) -/

/-- The kinds of channel (R381): `out` tells an output from an input channel address. -/
inductive ChanKind where
  | internal
  | invalid
  | virt (k : Nat) (out : Bool)
  | event (e : Nat) (out : Bool)
  | byteStream (n : Nat)
  deriving DecidableEq, Repr

/-- `chankind(a)` of R381. -/
def chanKind (c : Conf) (a : Word) : ChanKind :=
  if !a.slt c.memStart then .internal
  else if !a.slt c.minInvalidChannel then .invalid
  else if !a.slt 0x80000040#32 then .virt ((a - 0x80000040#32) >>> 3).toNat (a.getLsbD 2)
  else if !a.slt 0x80000020#32 then .event ((a - 0x80000020#32) >>> 3).toNat (a.getLsbD 2)
  else .byteStream ((a - 0x80000000#32) >>> 2).toNat

/-- The kind of a channel address. -/
abbrev State.kind (s : State) (a : Word) : ChanKind := chanKind s.conf a

/-- The input channel address of virtual link `k`. -/
abbrev virtInput (k : Nat) : Word := 0x80000040#32 + BitVec.ofNat 32 (8 * k)

/-- The input channel word of event pair `e`. -/
abbrev eventWord (e : Nat) : Word := 0x80000020#32 + BitVec.ofNat 32 (8 * e)

/-- BYTESTREAM_MAP (D42): the link of byte-stream channel `n`, outputs 0..3, inputs 4..7 (log 16, PRESUMED). -/
abbrev byteLink (n : Nat) : Nat := n % 4

/-- A byte-stream channel number is an output channel. -/
abbrev byteIsOut (n : Nat) : Bool := n < 4

/-- RC(c) of R425: the resource channel data structure. -/
def State.rc (s : State) (c : Word) : Word :=
  match s.kind c with
  | .internal => atw c 1
  | _ => (c - 0x80000020#32) + s.conf.externalRCBase

/-! ## The records of virtual links (47_vcp_config.md R641) -/

/-- A channel end after `initvlcb`. -/
def ChanEnd.init : ChanEnd :=
  { active := false, resource := false, queued := false, stopping := false, state := .empty, stoppers := []
    pendingPacket := none, pendingSchedule := none, prior := none }

/-- A channel end nothing has set up: any value. -/
def unsetEnd (w : Nat → Word) : ChanEnd where
  active := (w 0).getLsbD 0
  resource := (w 0).getLsbD 1
  queued := (w 0).getLsbD 2
  state := if (w 0).getLsbD 3 then .empty
    else if (w 0).getLsbD 4 then .comm (w 1) (w 2) (w 3) ((w 0).getLsbD 5) (w 4) ((w 0).getLsbD 6)
    else .enabled (w 1)
  stopping := (w 0).getLsbD 7
  stoppers := if (w 0).getLsbD 12 then [] else [w 7]
  pendingPacket := if (w 0).getLsbD 8 then none else some ((w 0).getLsbD 10)
  pendingSchedule := if (w 0).getLsbD 9 then none else some (w 5)
  prior := if (w 0).getLsbD 11 then none else some (w 6)

/-- A control block nothing has set up: any value (R641). -/
def unsetVlcb (k : Nat) : Vlcb :=
  let w := Config.unsetVlcbWord k
  { null := (w 0).getLsbD 0, link := (w 1).setWidth 2, offset := w 2, hlen := (w 3).setWidth 8
    h0 := (w 4).setWidth 8, h1 := (w 5).setWidth 8, h2 := (w 6).setWidth 8, buffer := w 7
    held := if (w 8).getLsbD 0 then none else some ((w 9).toNat % 33, (w 8).getLsbD 1)
    inp := unsetEnd fun i => w (10 + i), out := unsetEnd fun i => w (20 + i) }

/-- The record of virtual link `k`. -/
def State.vlcb (s : State) (k : Nat) : Vlcb := (s.vcp.vlcbs.lookup k).getD (unsetVlcb k)

/-- The record of virtual link `k` as the VCP acts on one of its channels: stopping, it deactivates the channel before
(47_vcp_config.md R643). -/
def State.vlcbFor (s : State) (k : Nat) (out : Bool) : Vlcb :=
  let v := s.vlcb k
  if s.vcp.mode != .stopping then v
  else if out then { v with out := { v.out with active := false } }
  else { v with inp := { v.inp with active := false } }

/-- The record of a link put in its place, the list staying in rising order of links. -/
def putVlcb : List (Nat × Vlcb) → Nat → Vlcb → List (Nat × Vlcb)
  | [], k, v => [(k, v)]
  | (j, u) :: rest, k, v =>
    if k < j then (k, v) :: (j, u) :: rest
    else if k = j then (k, v) :: rest
    else (j, u) :: putVlcb rest k v

/-- The record of virtual link `k` replaced. -/
def State.setVlcb (s : State) (k : Nat) (v : Vlcb) : State :=
  { s with vcp := { s.vcp with vlcbs := putVlcb s.vcp.vlcbs k v } }

/-- The queues of a link replaced. -/
def State.setQueues (s : State) (n : Nat) (q : LinkQueues) : State :=
  { s with vcp := { s.vcp with links := s.vcp.links.set n q } }

/-- The queues of a link. -/
abbrev State.queues (s : State) (n : Nat) : LinkQueues := s.vcp.links.get n

/-- Queue a virtual link for a data packet, at the priority of the process (R640). -/
def State.queueData (s : State) (n k : Nat) (low : Bool) : State :=
  let q := s.queues n
  s.setQueues n (if low then { q with loData := q.loData ++ [k] } else { q with hiData := q.hiData ++ [k] })

/-- Queue a virtual link for an acknowledge. -/
def State.queueAck (s : State) (n k : Nat) (low : Bool) : State :=
  let q := s.queues n
  s.setQueues n (if low then { q with loAck := q.loAck ++ [k] } else { q with hiAck := q.hiAck ++ [k] })

/-- A list without one virtual link. -/
def without (k : Nat) (l : List Nat) : List Nat := l.filter (· != k)

/-- The queues of a link with nothing of one virtual link queued for data packets, for acknowledges, or for both. -/
def LinkQueues.unqueue (q : LinkQueues) (k : Nat) (data acks : Bool) : LinkQueues :=
  { q with
    hiData := if data then without k q.hiData else q.hiData
    loData := if data then without k q.loData else q.loData
    hiAck := if acks then without k q.hiAck else q.hiAck
    loAck := if acks then without k q.loAck else q.loAck }

/-- A virtual link taken off the queues of every link: those for data packets, those for acknowledges, or both. -/
def State.unqueue (s : State) (k : Nat) (data acks : Bool) : State :=
  { s with vcp := { s.vcp with links := s.vcp.links.map fun q => q.unqueue k data acks } }

/-- An event pair replaced. -/
def State.setPair (s : State) (e : Nat) (p : EventPair) : State := { s with events := s.events.set e p }

/-! ## Making a process ready -/

/-- No process is put on a list by the VCP or an event pin: a Stop has been received or the VCP is stopping
(47_vcp_config.md R643, R698), or the processor has halted on an error (60_exceptions.md R740). That a VCP stopped by
VCPCommand holds event channels too, while the CPU runs, is the model's (log 57, DESIGN CHOICE). -/
def State.holding (s : State) : Bool :=
  s.vcp.mode == .stopping || s.ctl.gross == .stopping || s.ctl.gross == .error

/-- The VCP moves: while the processor is halted on an error it keeps its state and memory (60_exceptions.md R740; log 31,
DESIGN CHOICE). -/
def State.vcpMoves (s : State) : Bool := s.ctl.gross != .error

/-- A guard of the alternative of process `x` has become ready (R424): Enabling becomes Ready; Waiting becomes
Ready and the process is scheduled; Ready stays. The CPU does it for an output, else another agent. -/
def State.altReady (s : State) (cpu : Bool) (x : Word) : State :=
  let a := atw (x &&& 0xFFFFFFFC#32) (-4)
  let s := s.touchBy cpu false a
  let st := s.wordAt a
  if st = enablingP then s.putBy cpu a readyP
  else if st = waitingP then (s.putBy cpu a readyP).scheduleFor cpu x
  else s

/-- A value of pw.State that marks an alternative (R405). -/
def isAltState (w : Word) : Bool := w == enablingP || w == waitingP || w == readyP

/-- Channel `c` is the last of a queue: its rc.Ptr is not meaningful (R426, R432). -/
def State.nowTail (s : State) (c : Word) : State := { s with rcTails := c :: s.rcTails.filter (· != c) }

/-- Channel `c` has a successor on its queue, or is on none. -/
def State.noTail (s : State) (c : Word) : State := { s with rcTails := s.rcTails.filter (· != c) }

/-- Append channel `c` to the queue of the resource `r` (R426). -/
def State.queueResource (s : State) (cpu : Bool) (r c : Word) : State :=
  let s := (s.touchBy cpu false (atw r 1)).touchBy cpu false (atw r 2)
  let back := s.wordAt (atw r 2)
  let s := if s.wordAt (atw r 1) = notProcess then s.putBy cpu (atw r 1) c
    else (s.noTail back).putBy cpu (s.rc back) c
  (s.nowTail c).putBy cpu (atw r 2) c

/-- An external channel goes from resource to normal mode (R426, R429). -/
def State.normalMode (s : State) (c : Word) : State :=
  match s.kind c with
  | .virt k _ =>
    let v := s.vlcbFor k false
    s.setVlcb k { v with inp := { v.inp with resource := false, queued := false } }
  | .event e _ =>
    let s := s.agentTouch false (eventWord e)
    let s := if s.wordAt (eventWord e) = resChanP then s.aput (eventWord e) notProcess else s
    s.setPair e { (s.events.get e) with queued := false }
  | _ => s

/-- An external channel is marked queued on its resource. -/
def State.markQueued (s : State) (c : Word) : State :=
  match s.kind c with
  | .virt k _ =>
    let v := s.vlcb k
    s.setVlcb k { v with inp := { v.inp with queued := true } }
  | .event e _ => s.setPair e { (s.events.get e) with queued := true }
  | _ => s

/-- The server steps of a claim (R426): a server waiting in `grant` gets the identifier and runs, the channel
going back to normal mode; else the channel is queued and an alternative is made ready. -/
def State.claim (s : State) (cpu : Bool) (c : Word) : State :=
  let rc := s.rc c
  let s := s.touchBy cpu false rc
  let r := s.wordAt rc
  let s := s.touchBy cpu false r
  let srv := s.wordAt r
  let w := srv &&& 0xFFFFFFFC#32
  if srv ≠ notProcess ∧ isAltState (s.wordAt (atw w (-4))) = false then
    let s := (s.touchBy cpu false (atw w (-4))).touchBy cpu false (atw rc 1)
    let s := s.putBy cpu (s.wordAt (atw w (-4))) (s.wordAt (atw rc 1))
    let s := ((s.putBy cpu (atw rc 1) notProcess).putBy cpu rc notProcess).putBy cpu r notProcess
    (s.normalMode c).scheduleFor cpu srv
  else
    let s := (s.queueResource cpu r c).markQueued c
    if srv = notProcess then s else s.altReady cpu srv

/-- The present communication of a process is one of a message in pw.Temp, or (`on` false) of another. -/
def State.setTemp (s : State) (d : Word) (on : Bool) : State :=
  let others := s.temps.filter (· != d)
  { s with temps := if on then d :: others else others }

/-- A slot that becomes any value, by the CPU (`cpu`) or another agent; it is no watched write (44_protection_trap.md R484;
log 74, DESIGN CHOICE). -/
def State.undefSlot (s : State) (cpu : Bool) (a : Word) : State :=
  let t := if cpu then s.mput a (s.drawn 0) else s.aput a (s.drawn 0)
  { t with draws := s.draws + 1 }

/-- Slots that are undefined once an output of the process `d` is complete: pw.Temp after `outbyte` and `outword` (R392,
R393), and after `vout` pw.Pointer (R395) (log 37, DESIGN CHOICE). -/
def State.outputDone (s : State) (cpu : Bool) (d : Word) (var : Bool) : State :=
  let w := d &&& 0xFFFFFFFC#32
  let t := if s.temps.contains d then (s.undefSlot cpu w).setTemp d false else s
  if var then t.undefSlot cpu (atw w (-4)) else t

/-! ## Virtual channels: requests of the CPU (R385, R386, R388) -/

/-- A virtual channel's end completes: the process is scheduled, or the schedule is held while the channel is
deactivated; a stopping VCP deactivates the channel first (47_vcp_config.md R643). -/
def State.completeEnd (s : State) (e : ChanEnd) (d : Word) : ChanEnd × State :=
  let e := { e with state := .empty, active := e.active && !s.holding }
  if e.active then (e, s.schedule d) else ({ e with pendingSchedule := some d }, s)

/-- Some processes are scheduled, one after another. -/
def State.scheduleAll (s : State) : List Word → State
  | [] => s
  | d :: ds => (s.schedule d).scheduleAll ds

/-- The processes that `stopch` has kept waiting run, or their schedules are held while the channel is deactivated (R438,
R388). -/
def State.runStoppers (s : State) (e : ChanEnd) : ChanEnd × State :=
  if e.stoppers.isEmpty then (e, s)
  else
    let e := { e with active := e.active && !s.holding }
    if e.active then ({ e with stoppers := [] }, s.scheduleAll e.stoppers) else (e, s)

/-- Queue an acknowledge for an input channel, or hold it while the channel is deactivated. -/
def State.ackInput (s : State) (k : Nat) (v : Vlcb) (low : Bool) : Vlcb × State :=
  if v.inp.active then (v, s.queueAck v.link.toNat k low)
  else ({ v with inp := { v.inp with pendingPacket := some low } }, s)

/-- Where the packet buffer of a virtual link lies: the bottom eight words where the pointer is null (R386). -/
def Vlcb.bufferAt (v : Vlcb) : Word := if v.buffer = Config.nullBuffer then mostNeg else v.buffer

/-- A data packet meets the process inputting on a virtual channel (R386). Where a fixed-length input meets a message of
another length, its process runs at the end of the message and a longer one leaves the buffer a draw (log 38, DESIGN
CHOICE). -/
def State.inputPacket (s : State) (k : Nat) (v : Vlcb) (data : List Byte) (last : Bool) : State :=
  match v.inp.state with
  | .comm d p len var done _ =>
    let room := len.toNat - done.toNat
    let s := s.aputBytes (p + done) (data.take room)
    let total := done.toNat + data.length
    let (v, s) := s.ackInput k v (d.getLsbD 0)
    if last then
      let tooLong := decide (len.toNat < total)
      let s := if var then
          s.aput (atw (d &&& 0xFFFFFFFC#32) (-4)) (if tooLong then lengthErrorP else BitVec.ofNat 32 total)
        else s
      let s := if tooLong then s.scramble false p len.toNat else s
      let (e, s) := s.completeEnd v.inp d
      s.setVlcb k { v with inp := e, held := none }
    else
      s.setVlcb k { v with held := none, inp := { v.inp with state := .comm d p len var (BitVec.ofNat 32 total) false } }
  | _ => s

/-- The bytes of the packet held in a link's packet buffer. -/
def State.heldBytes (s : State) (v : Vlcb) : List Byte :=
  match v.held with
  | some (n, _) => s.mem.bytes v.bufferAt n
  | none => []

/-- The packet held in a link's packet buffer meets the process inputting. -/
def State.takeHeld (s : State) (k : Nat) (v : Vlcb) : State :=
  match v.held with
  | some (n, last) => (s.agentTouchBytes false v.bufferAt n).inputPacket k v (s.heldBytes v) last
  | none => s

/-- What stops a request on a virtual channel: a resetting VCP, a link in byte-stream mode (R643, R386). A null header names no
link: its channels are deactivated, and a request on them is recorded (47_vcp_config.md R658, 93 section 1.6). -/
def State.vcpRefusal (s : State) (k : Nat) : Option Fault :=
  if s.vcp.mode = .resetting then some .vcpResetting
  else if !(s.vlcb k).null && (s.links.get (s.vlcb k).link.toNat).vcpMode.getLsbD 0 then some .linkMode
  else none

/-- A request recorded at a channel end (R385). -/
def Request.state (q : Request) : EndState := .comm q.wdesc q.ptr q.len q.var 0#32 false

/-- An output begins: its first packet is queued, or held while the channel is deactivated. -/
def State.startOutput (s : State) (k : Nat) (v : Vlcb) (q : Request) : State :=
  let e := { v.out with state := q.state, prior := none }
  let low := q.wdesc.getLsbD 0
  if e.active then (s.setVlcb k { v with out := e }).queueData v.link.toNat k low
  else s.setVlcb k { v with out := { e with pendingPacket := some low } }

/-- The process whose communication or alternative is on a channel end, or whose schedule is held there; NotProcess.p where
there is none (47_vcp_config.md R662). -/
def ChanEnd.user (e : ChanEnd) : Word :=
  match e.state with
  | .comm d _ _ _ _ _ => d
  | .enabled d => d
  | .empty => e.pendingSchedule.getD notProcess

/-- A process is at a channel end. -/
abbrev ChanEnd.inUse (e : ChanEnd) : Bool := e.state != .empty || e.pendingSchedule.isSome

/-- A request on virtual link `k` (R385): an input waits for its packets, of which the VCP goes on to take one already held
(`State.vcpServe`); on a stopping channel a request is recorded (R438; log 36, DEDUCED). -/
def State.virtRequest (s : State) (k : Nat) (out : Bool) (q : Request) : Except Fault State :=
  let v := s.vlcbFor k out
  if (if out then v.out else v.inp).inUse then .error .channelBusy
  else if !out then .ok (s.setVlcb k { v with inp := { v.inp with state := q.state, prior := none } })
  else if v.out.stopping then .ok (s.setVlcb k { v with out := { v.out with state := q.state } })
  else .ok (s.startOutput k v q)

/-! ## Event channels (R440) -/

/-- A word that marks no process: the special values of an event channel word (R440). -/
def processOf (w : Word) : Word := if w = deactivatedP || w = resChanP then notProcess else w

/-- The process outputting on an event pair; NotProcess.p where there is none. -/
def State.eventOutputter (s : State) (e : Nat) : Word := processOf (s.wordAt (eventWord e + 4#32))

/-- The two words of an event pair are read. -/
def State.touchPair (s : State) (e : Nat) : State :=
  (s.agentTouch false (eventWord e)).agentTouch false (eventWord e + 4#32)

/-- An input event channel: the event and the process meet when both have come and the channel is activated. -/
def State.eventMeet (s : State) (e : Nat) : State :=
  let p := s.events.get e
  let a := eventWord e
  let x := s.wordAt a
  let s := s.touchPair e
  if !p.ready || s.wordAt (a + 4) == deactivatedP || s.holding then s
  else if x = resChanP then (if p.queued then s else s.claim false a)
  else if processOf x = notProcess then s
  else if p.enabled then s.altReady false x
  else ((s.setPair e { p with ready := false, outLevel := true }).aput a notProcess).schedule x

/-- An output on an event channel ends: its process runs and EventOut goes low (R440, R395). -/
def State.eventOutputDone (s : State) (e : Nat) : State :=
  let p := s.events.get e
  let y := s.eventOutputter e
  let s := (s.setPair e { p with outLevel := false, acked := false, varOut := false }).aput (eventWord e + 4#32) notProcess
  (s.outputDone false y p.varOut).schedule y

/-- An EventIn pin takes a level; what it leads to is held while the channel is deactivated (R388; log 57, DESIGN
CHOICE). -/
def State.eventPinChange (s : State) (e : Nat) (level : Bool) : State :=
  let p := s.events.get e
  if p.inLevel = level then s
  else
    let s := s.touchPair e
    let outputting := s.eventOutputter e != notProcess && p.outLevel
    let t := s.setPair e { p with inLevel := level }
    if level then
      if outputting then
        if s.wordAt (eventWord e) = deactivatedP ∨ s.holding = true then s.setPair e { p with inLevel := level, acked := true }
        else t.eventOutputDone e
      else State.eventMeet (s.setPair e { p with inLevel := level, ready := true }) e
    else if outputting || s.wordAt (eventWord e + 4#32) == deactivatedP || s.holding then t
    else s.setPair e { p with inLevel := level, outLevel := false }

/-- What is due on an output event channel that is not deactivated: the end of an output whose acknowledge has come, or
EventOut. -/
def State.eventOutputServe (s : State) (e : Nat) : State :=
  let p := s.events.get e
  if s.eventOutputter e = notProcess then s
  else if p.acked then s.eventOutputDone e
  else s.setPair e { p with outLevel := true }

/-- The VCP looks at an event channel (R440, R388): an input that has been asked for meets its event; what was held of an
output is done. -/
def State.eventServe (s : State) (e : Nat) : State :=
  if s.holding then s
  else
    let t := s.touchPair e
    if s.eventOutputter e = notProcess then t.eventMeet e
    else if s.wordAt (eventWord e) = deactivatedP then t
    else t.eventOutputServe e

/-! ## Communication on external channels (R385, R387) -/

/-- The word pair a byte-stream transfer leaves in the workspace (R387): base and limit in pw.Link and
pw.Pointer, the limit being the address behind the last byte (log 55, DESIGN CHOICE). -/
def State.byteSlots (s : State) (p n : Word) : State :=
  let (x, y) := if Config.byteStreamBaseInLink then (p, p + n) else (p + n, p)
  (s.aput (s.r.slot (-2)) x).aput (s.r.slot (-4)) y

/-- The length of a byte-stream input as the 1 to 4 bytes of its request packet (R387), as many as it needs, the least
significant first (log 34, DESIGN CHOICE). -/
def lengthBytes (n : Word) : List Byte :=
  if n.toNat < 0x100 then [byteOf n 0]
  else if n.toNat < 0x10000 then [byteOf n 0, byteOf n 1]
  else if n.toNat < 0x1000000 then [byteOf n 0, byteOf n 1, byteOf n 2]
  else [byteOf n 0, byteOf n 1, byteOf n 2, byteOf n 3]

/-- Hand a communication to the VCP (R385): the answer is why it cannot be, or the state with the request
recorded. The process has already been saved. A second process at one end of a channel is refused (R384, R440, 93
section 1.4; log 51, DEDUCED), and so is an input on an event channel whose word 0 holds Deactivated.p, the pair being used
for output, though no process is there (R440; log 81, DESIGN CHOICE). -/
def State.commExternal (s : State) (out : Bool) (c p n : Word) (var : Bool) : Except Fault State :=
  match s.kind c with
  | .virt k o =>
    if o != out then .error .channelDirection
    else match s.vcpRefusal k with
      | some f => .error f
      | none =>
        let e := if out then (s.vlcb k).out else (s.vlcb k).inp
        if e.resource && !e.queued && !out then .error .resourceInput
        else s.virtRequest k out ⟨s.r.wdesc, p, n, var⟩
  | .event e o =>
    if o != out then .error .channelDirection
    else
      let q := s.events.get e
      let a := eventWord e
      let t := s.touchPair e
      if out then
        if s.eventOutputter e ≠ notProcess then .error .channelBusy
        else .ok ((t.aput (a + 4) s.r.wdesc).setPair e
          { q with outLevel := s.wordAt a != deactivatedP && !s.holding, acked := false, varOut := var })
      else if s.wordAt a = resChanP then .error .resourceInput
      else if s.wordAt a != notProcess && s.wordAt a != s.r.wdesc then .error .channelBusy
      else
        let t := if var then t.aput (s.r.slot (-4)) 0#32 else t
        .ok ((t.aput a s.r.wdesc).setPair e { q with enabled := false })
  | .byteStream m =>
    let l := s.links.get (byteLink m)
    let q := s.queues (byteLink m)
    let x := s.wordAt (wordAddr c)
    if byteIsOut m != out then .error .channelDirection
    else if var || n == 0#32 || !l.vcpMode.getLsbD 0 || l.vcpMode.getLsbD 2 then .error .byteStream
    else if s.vcp.mode = .resetting then .error .vcpResetting
    else if (if out then q.byteOut.isSome else q.byteIn.isSome || (x != notProcess && x != s.r.wdesc)) then
      .error .channelBusy
    else
      let b : ByteComm := ⟨s.r.wdesc, p, n, 0#32, false⟩
      let t := ((s.agentTouch false (wordAddr c)).byteSlots p n).aput (wordAddr c) s.r.wdesc
      .ok (t.setQueues (byteLink m) (if out then { q with byteOut := some b } else { q with byteIn := some b }))
  | _ => .error .channelDirection

/-! ## Communication on internal channels (R384) -/

/-- What an internal communication does next. -/
inductive CommStep where
  /-- The process waits: it is saved and leaves the processor. -/
  | wait (s : State)
  /-- The communication is complete, or an interrupt point has been reached inside it. -/
  | go (s : State)
  /-- The copy has been interrupted after some bytes: the instruction is to be resumed (R290). -/
  | interrupted (s : State)
  | stop (f : Fault)

/-- Two blocks of `n` bytes share a byte (41_control_blockmove.md R293). -/
def blocksMeet (dst src : Word) (n : Nat) : Bool := decide ((dst - src).toNat < n) || decide ((src - dst).toNat < n)

/-- `n` bytes of a message from byte `i` on copied one after another. -/
def State.copyLoop (s : State) (dst src : Word) : Nat → Nat → State
  | 0, _ => s
  | n + 1, i =>
    let s := (s.touch false src).noteIf (s.outOfBounds src || s.belowStart dst) (.refuse .vlcbMemory)
    State.copyLoop ((s.iputByte dst (s.byteAt src)).wordCopied (dst &&& 3#32 == 3#32 && decide (3 ≤ i)) dst)
      (dst + 1) (src + 1) n (i + 1)

/-- `n` bytes from byte `i` on of a message of `all` bytes copied; overlapping blocks leave anything (D34), and so does a
message that is too long (`ok` false; R384 (d)). -/
def State.copyPart (s : State) (ok : Bool) (dst src : Word) (all i n : Nat) : State :=
  if !ok || blocksMeet dst src all then s.scramble true dst all
  else s.copyLoop (dst + BitVec.ofNat 32 i) (src + BitVec.ofNat 32 i) n i

/-- The slots of a communicating process: pw.Pointer, and for a variable-length message pw.Count. -/
def State.lodge (s : State) (p n : Word) (var : Bool) : State :=
  let t := s.iput (s.r.slot (-4)) p
  if var then t.iput (s.r.slot (-2)) n else t

/-- The first to arrive on an internal channel leaves its descriptor in the channel word (R384). -/
def State.lodgeOn (s : State) (c p n : Word) (var : Bool) : State := (s.iput c s.r.wdesc).lodge p n var

/-- A communication of the two processes that have met on an internal channel (R384): the executing process, whose
communication this is, and the one that has waited. -/
structure Meeting where
  out : Bool
  chan : Word
  partner : Word
  dst : Word
  src : Word
  len : Word
  ok : Bool
  max : Word
  var : Bool
  slot : Word
  deriving DecidableEq, Repr

/-- How many bytes at the destination a communication writes. -/
abbrev Meeting.size (m : Meeting) : Nat := (if m.ok then m.len else m.max).toNat

/-- The meeting of the current process with the process `x` waiting on channel `c` (R384, D41), in the form, direction and
length of the current process's instruction, whatever the other's was (R380; log 38, DESIGN CHOICE). -/
def State.meeting (s : State) (out : Bool) (c x p n : Word) (var : Bool) : Meeting :=
  let w := x &&& 0xFFFFFFFC#32
  let q := s.wordAt (atw w (-4))
  let m := s.wordAt (atw w (-2))
  let len := if var then (if out then n else m) else n
  let max := if var then (if out then m else n) else n
  { out := out, chan := c, partner := x, dst := if out then q else p, src := if out then p else q, len := len
    ok := len.toNat ≤ max.toNat, max := max, var := var, slot := if out then atw w (-4) else s.r.slot (-4) }

/-- The end of a communication: the length, the channel word, the bytes from byte `i` on, and the partner's run. -/
def State.finishComm (s : State) (m : Meeting) (i : Nat) : State :=
  let s := if m.var then s.iput m.slot (if m.ok then m.len else lengthErrorP) else s
  let s := (s.iput m.chan notProcess).copyPart m.ok m.dst m.src m.size i (m.size - i)
  let s := s.outputDone true (if m.out then s.r.wdesc else m.partner) m.var
  s.scheduleBy m.partner

/-- `comm_internal` of R384 (log 38, DESIGN CHOICE). The copy is interruptible: Ereg holds how many bytes are done (R290,
D35); while it is interrupted the channel word still holds the partner's descriptor and pw.Length is unwritten (log 29,
DESIGN CHOICE). -/
def State.commInternal (s : State) (out : Bool) (c p n : Word) (var : Bool) : CommStep :=
  let s := s.touch false c
  let x := s.wordAt c
  let w := x &&& 0xFFFFFFFC#32
  if x = notProcess then .wait (s.lodgeOn c p n var)
  else if x = resChanP then (if out then .wait ((s.lodgeOn c p n var).claim true c) else .stop .resourceInput)
  else
    let s := s.touch false (atw w (-4))
    if out && isAltState (s.wordAt (atw w (-4))) then .wait ((s.altReady true x).lodgeOn c p n var)
    else
      let s := if var then s.touch false (atw w (-2)) else s
      let m := s.meeting out c x p n var
      let i := if s.resuming then Nat.min s.r.ereg.toNat m.size else 0
      match s.cpuMode with
      | .part b =>
        if i + b < m.size then
          .interrupted ((s.copyPart m.ok m.dst m.src m.size i b).suspended (BitVec.ofNat 32 (i + b)))
        else .go (s.finishComm m i)
      | _ => .go (s.finishComm m i)

/-- A communication instruction after its checks (R384, R385). `s0` is the state it started with, `temp` tells whether the
message is in pw.Temp; the stacks are undefined at its end. -/
def State.communicate (s0 : State) (s : State) (out : Bool) (c p n : Word) (var temp : Bool) : Out :=
  let s := s.setTemp s.r.wdesc temp
  match s.kind c with
  | .internal =>
    match s.commInternal out c p n var with
    | .wait t => s0.deschedule t
    | .go t => s0.finish t.undefPoint
    | .interrupted t => t.done
    | .stop f => .fault f
  | _ =>
    let t := (s.lodge p n false).saveContext
    match t.commExternal out c p n var with
    | .ok u => s0.leave u
    | .error f => .fault f

end Sys2Proof.Machine
end

