-- ==== Sys2Proof/Machine/Vcp.lean ====
section
/-! DEFINITION. Vcp: the virtual channel processor as an agent: packets sent and accepted
(47_vcp_config.md R640 to R649, 43_channels_alt.md R386, R387). -/

namespace Sys2Proof.Machine

/-! ## Errors of packets (R648) -/

/-- A packet error (R648): recorded in VCPStatus unless an error is recorded already, and signalled to the
control system (#02), which makes the VCP discard (R643), unless the link localizes errors. -/
def State.packetError (s : State) (n code : Nat) (header : Word) : State :=
  let status := 1#32 ||| (BitVec.ofNat 32 code <<< 1) ||| (BitVec.ofNat 32 n <<< 4) ||| (header <<< 16)
  let s := if s.conf.vcpStatusSet then s
    else { s with conf := { s.conf with vcpStatus := status, vcpStatusSet := true } }
  if (s.links.get n).vcpMode.getLsbD 1 then s else s.discarding.haltRunning Config.reasonHalted 0x02#8

/-- The header of a packet on a link: 1 byte, or 2 with the first the less significant (R642). -/
def headerValue (two : Bool) : List Byte → Option Half
  | b :: c :: _ => some (if two then c ++ b else 0#8 ++ b)
  | [b] => if two then none else some (0#8 ++ b)
  | [] => none

/-! ## Accepting packets -/

/-- An acknowledge arrives for virtual link `k` (R386, R388). That of a stopping channel, the last, runs the process that
executed `stopch` and lets a communication asked for since begin (R438). -/
def State.acceptAck (s : State) (k : Nat) (v : Vlcb) : State :=
  if v.out.stopping then
    let (e, s) := s.runStoppers { v.out with stopping := false }
    let v := { v with out := e }
    match e.state with
    | .comm d p n var _ _ => s.startOutput k v ⟨d, p, n, var⟩
    | _ => s.setVlcb k v
  else match v.out.state with
  | .comm d p n var done true =>
    if done = n then
      let (e, s) := (s.outputDone false d var).completeEnd v.out d
      s.setVlcb k { v with out := e }
    else
      let v := { v with out := { v.out with state := .comm d p n var done false } }
      if v.out.active then (s.setVlcb k v).queueData v.link.toNat k (d.getLsbD 0)
      else s.setVlcb k { v with out := { v.out with pendingPacket := some (d.getLsbD 0) } }
  | _ => s.setVlcb k v

/-- The packet in the buffer of virtual link `k`, whose input channel is active, meets what the channel is used for (R386,
R424, R426): a communication, in resource mode a claim (log 68, DEDUCED), or an alternative; after a Stop no process becomes
ready (47_vcp_config.md R698). -/
def State.meetHeld (s : State) (k : Nat) (v : Vlcb) : State :=
  match v.inp.state with
  | .comm _ _ _ _ _ _ => s.takeHeld k v
  | st =>
    if s.holding then s
    else if v.inp.resource then (if v.inp.queued then s else s.claim false (virtInput k))
    else
      match st with
      | .enabled d => s.altReady false d
      | _ => s

/-- The VCP, running, goes on with the input channel of virtual link `k` whose packet buffer holds a packet: the CPU has asked
for it, or the channel has been activated, since the packet came (R386, R388, 47_vcp_config.md R643). -/
def State.vcpServe (s : State) (k : Nat) : State :=
  let v := s.vlcb k
  if s.vcpMoves && s.vcp.mode == .running && v.held.isSome && v.inp.active then s.meetHeld k v else s

/-- A data packet arrives for virtual link `k` (R386): on a stopping channel it is acknowledged and dropped (R388), with a
process inputting it goes to its place, else into the packet buffer. The acknowledge of a packet dropped, of which no process
inputs, has the priority in bit 0 of NotProcess.p, high (R438; log 78, DESIGN CHOICE). -/
def State.acceptData (s : State) (k : Nat) (v : Vlcb) (data : List Byte) (last : Bool) : State :=
  if v.inp.stopping then
    let (v, s) := s.ackInput k v (v.inp.user.getLsbD 0)
    s.setVlcb k v
  else match v.inp.state with
  | .comm _ _ _ _ _ _ => s.inputPacket k v data last
  | _ =>
    let v := { v with held := some (data.length, last) }
    let s := (s.aputBytes v.bufferAt data).setVlcb k v
    if v.inp.active then s.meetHeld k v else s

/-- The channel word of the output (`n` from 0) or input (`n` from 4) of a byte-stream link. -/
abbrev byteWord (n : Nat) : Word := 0x80000000#32 + BitVec.ofNat 32 (4 * n)

/-- A byte-stream output or input has ended: its process runs and the channel word is empty (R387). After a Stop nothing
is scheduled (47_vcp_config.md R698): the end is held where it is. -/
def State.byteEnd (s : State) (n : Nat) (q : LinkQueues) (b : ByteComm) (out : Bool) : State :=
  if s.holding then s
  else if out then
    let s := (s.setQueues n { q with byteOut := none }).aput (byteWord n) notProcess
    (s.outputDone false b.wdesc false).schedule b.wdesc
  else ((s.setQueues n { q with byteIn := none }).aput (byteWord (4 + n)) notProcess).schedule b.wdesc

/-- A packet that has no data and ends in EOP: an acknowledge (R386, R387). -/
def Packet.isAck (p : Packet) : Bool := p.data.isEmpty && !p.last

/-- The acknowledge of a packet of the byte-stream output of link `n` (R387). -/
def State.byteAcknowledged (s : State) (n : Nat) : State :=
  let q := s.queues n
  match q.byteOut with
  | some b =>
    let q := { q with byteOut := some { b with sent := false } }
    let s := s.setQueues n q
    if b.done = b.len then s.byteEnd n q b true else s
  | none => s

/-- A packet for the process `b` that inputs on byte-stream link `n` (R387): data go to their place and are to be
acknowledged; the notice of an unsolicited byte, which has none, has found its process. -/
def State.byteData (s : State) (n : Nat) (b : ByteComm) (p : Packet) : State :=
  if p.data.isEmpty then s
  else
    let q := s.queues n
    let room := b.len.toNat - b.done.toNat
    let total := b.done.toNat + p.data.length
    let dst := b.ptr + b.done
    let b := { b with done := BitVec.ofNat 32 (Nat.min total b.len.toNat) }
    let q := { q with byteAcks := q.byteAcks + 1, byteIn := some b }
    let s := (s.aputBytes dst (p.data.take room)).setQueues n q
    if p.last || decide (b.len.toNat ≤ total) then s.byteEnd n q b false else s

/-- The process `x` on the channel word of a byte-stream input has enabled the channel in an alternative that is not ready
yet. -/
def State.enabling (s : State) (x : Word) : Bool :=
  x != notProcess && (s.wordAt (atw (x &&& 0xFFFFFFFC#32) (-4)) == enablingP ||
    s.wordAt (atw (x &&& 0xFFFFFFFC#32) (-4)) == waitingP)

/-- The oldest packet `p` on byte-stream link `n` is for an input, and no process inputs: it stays where it is. The VCP makes
an alternative ready that has enabled the channel (R413, R424; log 68, DEDUCED), and after that takes the oldest
acknowledge behind the packet, which is for an output (R387). -/
def State.byteStalled (s : State) (n : Nat) (p : Packet) (rest : List Packet) : State :=
  let a := byteWord (4 + n)
  let x := s.wordAt a
  let t := if s.holding then s else s.agentTouch false a
  let t := if s.holding || x == notProcess then t else t.agentTouch false (atw (x &&& 0xFFFFFFFC#32) (-4))
  if !s.holding && s.enabling x then t.altReady false x
  else if rest.any Packet.isAck then
    (t.setQueues n { s.queues n with arrived := p :: rest.eraseP Packet.isAck }).byteAcknowledged n
  else t

/-- The oldest packet `p` from the IMS C100 on a link in byte-stream mode (R387), with `rest` behind it: an acknowledge; or
data, or the notice of an unsolicited byte, for the process inputting, which waits where there is none. -/
def State.acceptByte (s : State) (n : Nat) (p : Packet) (rest : List Packet) : State :=
  let q := s.queues n
  let t := s.setQueues n { q with arrived := rest }
  if p.isAck then t.byteAcknowledged n
  else
    match q.byteIn with
    | some b => t.byteData n b p
    | none => s.byteStalled n p rest

/-- A packet in virtual mode is mapped to its virtual link and taken (R642, R648). The header recorded where it is too
short is any value (log 69, DESIGN CHOICE). -/
def State.acceptVirtual (s : State) (n : Nat) (p : Packet) : State :=
  let l := s.links.get n
  match headerValue (l.vcpMode.getLsbD 2) p.header with
  | none => { s with draws := s.draws + 1 }.packetError n 1 (s.drawn 0)
  | some h =>
    if h < l.minHeader || l.maxHeader < h then s.packetError n 0 (h.setWidth 32)
    else if 32 < p.data.length then s.packetError n 3 (h.setWidth 32)
    else if p.data.length < 32 && !p.data.isEmpty && !p.last then s.packetError n 2 (h.setWidth 32)
    else
      let k := (h - l.hdrOffset).toNat
      if (s.vcp.vlcbs.lookup k).isNone then s.note (.refuse .headerUnmapped)
      else if p.data.isEmpty && !p.last then s.acceptAck k (s.vlcbFor k true)
      else
        let s := s.vcpServe k
        s.acceptData k (s.vlcbFor k false) p.data p.last

/-- The VCP accepts the oldest packet that has arrived on link `n`: in the running and stopping modes; a discarding VCP drops
it; in the waiting mode packets are stalled (R643), and so they are while the processor is halted on an error. -/
def State.vcpAccept (s : State) (n : Nat) : State :=
  let q := s.queues n
  match q.arrived with
  | [] => s
  | p :: rest =>
    let t := s.setQueues n { q with arrived := rest }
    match s.vcp.mode with
    | .running | .stopping =>
      if !s.vcpMoves then s
      else if (s.links.get n).vcpMode.getLsbD 0 then s.acceptByte n p rest
      else t.acceptVirtual n p
    | .discarding => t
    | _ => s

/-! ## Sending packets -/

/-- The header bytes of a virtual link (R641): held in the block, or in the header area where it is long. -/
def State.headerBytes (s : State) (v : Vlcb) : List Byte :=
  if v.hlen.toNat ≤ 3 then [v.h0, v.h1, v.h2].take v.hlen.toNat
  else s.mem.bytes (s.conf.hdrAreaBase + 4#32 * v.offset) v.hlen.toNat

/-- The accesses by which the header bytes of a virtual link are read. -/
def State.touchHeader (s : State) (v : Vlcb) : State :=
  if v.hlen.toNat ≤ 3 then s
  else s.agentTouchBytes false (s.conf.hdrAreaBase + 4#32 * v.offset) v.hlen.toNat

/-- The next of a data and an acknowledge queue, in turn as long as neither is empty (R640): the virtual link, whether it
is an acknowledge, and what remains of the queues. -/
def pickQueue (data ack : List Nat) (lastAck : Bool) : Option (Nat × Bool × List Nat × List Nat) :=
  match data, ack with
  | d :: ds, [] => some (d, false, ds, [])
  | [], a :: as => some (a, true, [], as)
  | d :: ds, a :: as => if lastAck then some (d, false, ds, a :: as) else some (a, true, d :: ds, as)
  | [], [] => none

/-- Choose the queue a link serves next (R640): high priority first; data and acknowledge in turn within each priority. The
answer is the virtual link, whether it sends an acknowledge, the priority (true for low), and the queues that remain
(log 63, DEDUCED). -/
def LinkQueues.next (q : LinkQueues) : Option (Nat × Bool × Bool × LinkQueues) :=
  match pickQueue q.hiData q.hiAck q.hiLastAck with
  | some (k, ack, ds, as) => some (k, ack, false, { q with hiData := ds, hiAck := as, hiLastAck := ack })
  | none =>
    match pickQueue q.loData q.loAck q.loLastAck with
    | some (k, ack, ds, as) => some (k, ack, true, { q with loData := ds, loAck := as, loLastAck := ack })
    | none => none

/-- A packet goes out on a link. -/
def State.sendPacket (s : State) (n : Nat) (p : Packet) : State :=
  let q := s.queues n
  s.setQueues n { q with sent := q.sent ++ [p] }

/-- The next data packet of an output: at most 32 bytes from where the last one ended (R386); of a deactivated channel it is
held (R388). A queued packet of an output that has been stopped or reset is not sent. -/
def State.sendData (s : State) (n k : Nat) (v : Vlcb) : State :=
  match v.out.state with
  | .comm d p len var done false =>
    if v.out.stopping then s
    else if !v.out.active then s.setVlcb k { v with out := { v.out with pendingPacket := some (d.getLsbD 0) } }
    else
      let m := Nat.min 32 (len.toNat - done.toNat)
      let s := (s.agentTouchBytes false (p + done) m).touchHeader v
      let done' := done + BitVec.ofNat 32 m
      let s := s.sendPacket n ⟨s.headerBytes v, s.mem.bytes (p + done) m, done' == len⟩
      s.setVlcb k { v with out := { v.out with state := .comm d p len var done' true } }
  | _ => s

/-- A link's output works: it is started and ResetOutput does not hold it (10_state.md R70). -/
def Link.sends (l : Link) : Bool := l.started && !l.resetOutputDone

/-- The VCP sends the next packet queued for link `n`, when it is running and the link works; a stopping VCP deactivates
the channel and holds the packet (R643). An acknowledge queued before its channel was deactivated goes out, of which R388 says
nothing, where the VCP runs (log 78, DESIGN CHOICE). What was queued before `sethdr` named another link goes to that link's queue: all
packets of a message go down one link (R386; log 63, DEDUCED). -/
def State.vcpSend (s : State) (n : Nat) : State :=
  match (s.queues n).next with
  | none => s
  | some (k, ack, low, q) =>
    let v := s.vlcbFor k (!ack)
    let t := s.setQueues n q
    match s.vcp.mode with
    | .running =>
      if !s.vcpMoves then s
      else if v.link.toNat ≠ n then (if ack then t.queueAck v.link.toNat k low else t.queueData v.link.toNat k low)
      else if !(s.links.get n).sends then s
      else if ack then (t.touchHeader v).sendPacket n ⟨t.headerBytes v, [], false⟩
      else t.sendData n k v
    | .stopping =>
      if !s.vcpMoves then s
      else if ack then t.setVlcb k { v with inp := { v.inp with pendingPacket := some low } }
      else (t.setVlcb k v).sendData n k v
    | _ => s

/-- The VCP sends on a byte-stream link: it is running, and the link works. -/
def State.byteSends (s : State) (n : Nat) : Bool :=
  s.vcpMoves && s.vcp.mode == .running && (s.links.get n).sends

/-- The next packet of a byte-stream output (R387). -/
def State.byteSend (s : State) (n : Nat) : State :=
  let q := s.queues n
  match q.byteOut with
  | some b =>
    if b.sent || b.done = b.len || !s.byteSends n then s
    else
      let m := Nat.min 32 (b.len.toNat - b.done.toNat)
      let s := s.agentTouchBytes false (b.ptr + b.done) m
      let done := b.done + BitVec.ofNat 32 m
      s.setQueues n
        { q with
          byteOut := some { b with done := done, sent := true }
          sent := q.sent ++ [⟨[0#8], s.mem.bytes (b.ptr + b.done) m, done == b.len⟩] }
  | none => s

/-- What a byte-stream input sends on link `n`: the acknowledge of a packet, or the count of bytes expected (R387). -/
def State.byteReply (s : State) (n : Nat) : State :=
  let q := s.queues n
  if !s.byteSends n then s
  else if q.byteAcks ≠ 0 then
    s.setQueues n { q with byteAcks := q.byteAcks - 1, sent := q.sent ++ [⟨[0#8], [], false⟩] }
  else
    match q.byteIn with
    | some b =>
      if b.sent then s
      else s.setQueues n
        { q with byteIn := some { b with sent := true }, sent := q.sent ++ [⟨[1#8], lengthBytes b.len, true⟩] }
    | none => s

/-- The far end takes the oldest packet sent, when the link works. -/
def State.wireTaken (s : State) (n : Nat) : State :=
  let q := s.queues n
  if (s.links.get n).sends then s.setQueues n { q with sent := q.sent.tail } else s

/-! ## Links (R648, R649) -/

/-- A physical link is reset: token state and errors go, the link is not started (R649). -/
def Link.resetEngine (l : Link) : Link :=
  { l with linkError := false, started := false, parityError := false, discError := false, tokenReceived := false }

/-- A physical link is started. -/
def Link.startEngine (l : Link) : Link := { l with started := true, resetOutputDone := false }

/-- CLink0 after a token has come: it starts where it has not been started (R691; log 34, DESIGN CHOICE). -/
def Link.tokenStarted (l : Link) : Link := { (if l.started then l else l.startEngine) with tokenReceived := true }

/-- A link's buffers emptied: packets in transit are lost (R648, R649). -/
def LinkQueues.noTransit (q : LinkQueues) : LinkQueues := { q with arrived := [], sent := [] }

/-- The buffers of a data link emptied. -/
def State.emptyLink (s : State) (n : Nat) : State := s.setQueues n (s.queues n).noTransit

/-- A link after an error that its engine has detected: reset, with the error recorded; a disconnect is one only after a
token (R649). -/
def Link.failed (l : Link) (parity : Bool) : Option Link :=
  if !l.started || (!parity && !l.tokenReceived) then none
  else some { l.resetEngine with linkError := true, parityError := parity, discError := !parity }

/-- The link engine detects an error (R648): the link is reset with the error recorded; unless errors are
localized the CPU and the VCP are halted and the control system is told (#80 + N). -/
def State.linkErrorEvent (s : State) (n : Nat) (parity : Bool) : State :=
  match (s.links.get n).failed parity with
  | none => s
  | some l =>
    let s := { s with links := s.links.set n l }.emptyLink n
    if l.mode.getLsbD 3 then s
    else s.discarding.haltRunning Config.reasonHalted (BitVec.ofNat 8 (0x80 + n % 4))

/-- The first token arrives at a link that has been started (R649). -/
def Link.token (l : Link) : Link := if l.started then { l with tokenReceived := true } else l

/-- A packet arrives at a link that has been started. -/
def State.packetArrives (s : State) (n : Nat) (p : Packet) : State :=
  let l := s.links.get n
  if l.started then
    let s := { s with links := s.links.set n { l with tokenReceived := true } }
    let q := s.queues n
    s.setQueues n { q with arrived := q.arrived ++ [p] }
  else s

end Sys2Proof.Machine
end

