-- ==== Sys2Proof/Machine/ConfSpace.lean ====
section
/-! DEFINITION. ConfSpace: the configuration space: every register's place, its significant bits, its lock, and
the actions (10_state.md R60 to R74, 47_vcp_config.md R672). -/

namespace Sys2Proof.Machine

/-! ## Reading -/

/-- The significant bits of FormatControl (R63). -/
abbrev formatMask : Word := 0xF000001C#32
/-- A word-aligned address register. -/
abbrev alignedMask : Word := 0xFFFFFFFC#32

/-- VCPCommand as it reads (R65): the bit of the present mode. What a read returns is not said (log 70, DESIGN
CHOICE). -/
def vcpCommandWord (m : VcpMode) : Word :=
  match m with
  | .resetting => 1#32
  | .running => 2#32
  | .stopping => 4#32
  | _ => 0#32

/-- LinkNStatus (R70). -/
def Link.status (l : Link) : Word :=
  boolWord l.linkError ||| (boolWord l.started <<< 1) ||| (boolWord l.resetOutputDone <<< 2) |||
    (boolWord l.parityError <<< 3) ||| (boolWord l.discError <<< 4) ||| (boolWord l.tokenReceived <<< 5)

/-- The registers of a DS-Link subsystem, by the low address byte (R70, R71). -/
def Link.confRead (l : Link) (low : Nat) : Option (Word × Word) :=
  match low with
  | 0x01 => some (l.mode.setWidth 32, 0x1F#32)
  | 0x03 => some (l.status, 0x3F#32)
  | 0x04 => some (boolWord l.writeLock, 1#32)
  | _ => none

/-- The registers of the PMI bank-address subsystem (R63): address, mask and format of the four banks. -/
def Conf.bankRead (c : Conf) (low : Nat) : Option (Word × Word) :=
  if low < 0x0E then
    let b := c.banks.get ((low - 2) / 3)
    match (low - 2) % 3 with
    | 0 => some (b.address, alignedMask)
    | 1 => some (b.mask, alignedMask)
    | _ => some (b.formatControl, formatMask)
  else some ((c.banks.get (low - 0x0E)).rasBits, alignedMask)

/-- The registers of the PMI strobe subsystem (R72). -/
def Conf.strobeRead (c : Conf) (low : Nat) : Option (Word × Word) :=
  let b := c.banks.get (low - 1)
  match (low - 1) / 4 with
  | 0 => some (b.rasStrobe, 0xFFFC0000#32)
  | 1 => some (b.casStrobe, 0xFFFC0000#32)
  | 2 => some (b.progStrobe, 0xFFFC0000#32)
  | 3 => some (b.writeStrobe, 0xFFFC0000#32)
  | 4 => some (b.timingControl, 0xFFFFFE00#32)
  | _ => some (c.refreshControl, 0xFFFFFF80#32)

/-- The registers of the VCP that belong to one link (R65). -/
def Link.vcpRead (l : Link) (low : Nat) : Option (Word × Word) :=
  match (low - 0x05) % 4 with
  | 0 => some (l.vcpMode.setWidth 32, 7#32)
  | 1 => some (l.maxHeader.setWidth 32, 0xFFFF#32)
  | 2 => some (l.minHeader.setWidth 32, 0xFFFF#32)
  | _ => some (l.hdrOffset.setWidth 32, 0xFFFF#32)

/-- The value of a readable configuration register and its significant bits (R60 to R74); none for an invalid
address or one that cannot be read (R672). A read of an address that only starts an action, which has no significant bits,
is not defined (R60): it delivers any value (93 section 1.1). -/
def State.confRead (s : State) (a : Word) : Option (Word × Word) :=
  let c := s.conf
  let low := (a &&& 0xFF#32).toNat
  match (a >>> 8).toNat with
  | 0x01 =>
    match low with
    | 0x0F => some (c.minInvalidChannel, alignedMask)
    | 0x11 => some (c.initialIptr, 0xFFFFFFFF#32)
    | 0x12 => some (c.initialWptr, alignedMask)
    | 0x13 => some (c.reason, 0xFFFFFFFF#32)
    | 0x15 => some (c.emiBadAddress, 0xFFFFFFFF#32)
    | _ => none
  | 0x02 =>
    if 0x02 ≤ low ∧ low ≤ 0x11 then c.bankRead low
    else if low = 0x12 then some (0#32, 0#32)
    else if low = 0x13 then some (c.pmiErrorAddress, alignedMask)
    else none
  | 0x04 => if 0x01 ≤ low ∧ low ≤ 0x15 then c.strobeRead low else if low = 0x16 then some (0#32, 0#32) else none
  | 0x06 => if low = 0 then some (boolWord c.pmiWriteLock, 1#32) else none
  | 0x08 =>
    if low = 0x02 then some (c.vcpStatus, 0xFFFF0037#32)
    else if low = 0x04 then some (vcpCommandWord s.vcp.mode, 7#32)
    else if 0x05 ≤ low ∧ low ≤ 0x14 then (s.links.get ((low - 5) / 4)).vcpRead low
    else none
  | 0x09 => if low = 0x01 then some (c.hdrAreaBase, alignedMask) else none
  | 0x10 =>
    match low with
    | 0x01 => some (Config.deviceId, 0xFFFF#32)
    | 0x02 => some (Config.deviceRevision.setWidth 32, 0xFFFF#32)
    | 0x03 => some (boolWord c.errorSinceReset ||| (boolWord c.standAloneMode <<< 1), 3#32)
    | 0x04 => some (c.errorCode.setWidth 32, 0xFF#32)
    | 0x05 => some (c.speedMultiply.setWidth 32, 0x3F#32)
    | 0x06 => some (boolWord c.sysServWriteLock, 1#32)
    | _ => none
  | 0x20 =>
    match low with
    | 0x01 => some (c.ramSize.setWidth 32, 3#32)
    | 0x03 => some (c.ramLineNumber.setWidth 32, 0xFF#32)
    | 0x04 => some (c.ramAddress, 0xFFFFFFF0#32)
    | _ => none
  | 0x41 =>
    match low with
    | 0x0E => some (c.memStart, alignedMask)
    | 0x10 => some (c.externalRCBase, alignedMask)
    | _ => none
  | 0x49 => if low = 0 then some (boolWord c.chanWriteLock, 1#32) else none
  | 0x80 => s.links.q0.confRead low
  | 0x81 => s.links.q1.confRead low
  | 0x82 => s.links.q2.confRead low
  | 0x83 => s.links.q3.confRead low
  | 0xFD => s.clink0.confRead low
  | 0xFE => s.clink1.confRead low
  | _ => none

/-- What a read delivers: the significant bits of the register, the other bits any value (R60) (log 60, DEDUCED). -/
def confValue (v mask free : Word) : Word := (v &&& mask) ||| (free &&& ~~~ mask)

/-! ## Writing -/

/-- A write lock holds for a configuration address (R73). -/
def State.confLocked (s : State) (a : Word) : Bool :=
  match (a >>> 8).toNat with
  | 0x01 | 0x08 | 0x09 | 0x41 | 0x49 => s.conf.chanWriteLock
  | 0x02 | 0x04 | 0x06 => s.conf.pmiWriteLock
  | 0x10 => s.conf.sysServWriteLock
  | 0x80 => s.links.q0.writeLock
  | 0x81 => s.links.q1.writeLock
  | 0x82 => s.links.q2.writeLock
  | 0x83 => s.links.q3.writeLock
  | 0xFD => s.clink0.writeLock
  | 0xFE => s.clink1.writeLock
  | _ => false

/-- What a write to a configuration address does: nothing can be written there, or it stops, or the state. -/
inductive ConfWrite where
  | invalid
  | stop (f : Fault)
  | ok (s : State)

/-- The command register of a link (R70): ResetLink, StartLink on a 0 to 1 transition, ResetOutput,
WrongParity (which only the far end sees). When ResetOutputComplete is set and cleared is not said, nor what a write with
several bits set does: ResetLink acts first, then StartLink, then ResetOutput (log 34, DESIGN CHOICE). -/
def Link.command (l : Link) (v : Word) : Link :=
  let l := if v.getLsbD 0 then l.resetEngine else l
  let l := if v.getLsbD 1 && !l.startBit then l.startEngine else l
  let l := if v.getLsbD 2 then { l with resetOutputDone := true } else l
  { l with startBit := v.getLsbD 1 }

/-- A write to a DS-Link subsystem; the mode of a started link may not be changed (R801). -/
def Link.confWrite (l : Link) (low : Nat) (v : Word) : Except Fault (Option Link) :=
  match low with
  | 0x01 => if l.started then .error .unitRunning else .ok (some { l with mode := v.setWidth 5 })
  | 0x02 => .ok (some (l.command v))
  | 0x04 => .ok (some { l with writeLock := v.getLsbD 0 })
  | _ => .ok none

/-- A write to data link `n`; ResetLink empties its buffers (R70, 47_vcp_config.md R649). -/
def State.linkWrite (s : State) (n low : Nat) (v : Word) : ConfWrite :=
  match (s.links.get n).confWrite low v with
  | .error f => .stop f
  | .ok none => .invalid
  | .ok (some l) =>
    let t := { s with links := s.links.set n l }
    .ok (if low = 0x02 ∧ v.getLsbD 0 = true then t.emptyLink n else t)

/-- A write to a control link; ResetLink empties its buffer (10_state.md R71, 47_vcp_config.md R649). -/
def State.clinkWrite (s : State) (one : Bool) (low : Nat) (v : Word) : ConfWrite :=
  match (if one then s.clink1 else s.clink0).confWrite low v with
  | .error f => .stop f
  | .ok none => .invalid
  | .ok (some l) =>
    let empty := decide (low = 0x02) && v.getLsbD 0
    .ok (if one then { s with clink1 := l, ctl := { s.ctl with down := if empty then [] else s.ctl.down } }
      else { s with clink0 := l, ctl := { s.ctl with up := if empty then [] else s.ctl.up } })

/-- A bank's registers written (R63). -/
def Conf.bankWrite (c : Conf) (low : Nat) (v : Word) : Conf :=
  if low < 0x0E then
    let k := (low - 2) / 3
    let b := c.banks.get k
    match (low - 2) % 3 with
    | 0 => { c with banks := c.banks.set k { b with address := v &&& alignedMask } }
    | 1 => { c with banks := c.banks.set k { b with mask := v &&& alignedMask } }
    | _ => { c with banks := c.banks.set k { b with formatControl := v &&& formatMask } }
  else
    let k := low - 0x0E
    { c with banks := c.banks.set k { (c.banks.get k) with rasBits := v &&& alignedMask } }

/-- A strobe register written (R72). -/
def Conf.strobeWrite (c : Conf) (low : Nat) (v : Word) : Conf :=
  let k := low - 1
  let b := c.banks.get k
  match (low - 1) / 4 with
  | 0 => { c with banks := c.banks.set k { b with rasStrobe := v &&& 0xFFFC0000#32 } }
  | 1 => { c with banks := c.banks.set k { b with casStrobe := v &&& 0xFFFC0000#32 } }
  | 2 => { c with banks := c.banks.set k { b with progStrobe := v &&& 0xFFFC0000#32 } }
  | 3 => { c with banks := c.banks.set k { b with writeStrobe := v &&& 0xFFFC0000#32 } }
  | 4 => { c with banks := c.banks.set k { b with timingControl := v &&& 0xFFFFFE00#32 } }
  | _ => { c with refreshControl := v &&& 0xFFFFFF80#32 }

/-- A VCP register of a link written (R65). -/
def Link.vcpWrite (l : Link) (low : Nat) (v : Word) : Link :=
  match (low - 0x05) % 4 with
  | 0 => { l with vcpMode := v.setWidth 3 }
  | 1 => { l with maxHeader := v.setWidth 16 }
  | 2 => { l with minHeader := v.setWidth 16 }
  | _ => { l with hdrOffset := v.setWidth 16 }

/-- The VCP is reset by its command register (47_vcp_config.md R643): registers undefined, queues empty, all
four links reset; their write locks stay (R73), and VCPStatus is cleared (10_state.md R65; log 35, DEDUCED). -/
def State.vcpReset (s : State) : State :=
  let t := s.clearVcp
  { t with links := t.links.map Link.resetEngine }

/-- VCPCommand (R65, R643): the lowest bit set is the command (log 17, DESIGN CHOICE). -/
def State.vcpCommand (s : State) (v : Word) : ConfWrite :=
  let mode (m : VcpMode) : ConfWrite := .ok { s with vcp := { s.vcp with mode := m } }
  if v.getLsbD 0 then .ok s.vcpReset
  else
    match s.vcp.mode with
    | .resetting => if v.getLsbD 1 || v.getLsbD 2 then .stop .vcpResetting else mode .waiting
    | .waiting =>
      if v.getLsbD 1 then mode (if s.vcp.stopSignalled then .stopping else .running)
      else if v.getLsbD 2 then .ok { s with vcp := { s.vcp with stopSignalled := true } }
      else .ok s
    | .running => if v.getLsbD 1 then .ok s else if v.getLsbD 2 then mode .stopping else mode .waiting
    | .stopping => .ok s
    | .discarding => .ok s

/-- How many bytes of on-chip RAM a RamSize code gives (R64). -/
def ramBytes (code : BitVec 2) : Nat := 64 * ramRows code

/-- `n` bytes from an address become any value. -/
def State.lost (s : State) (a : Word) (n : Nat) : State :=
  { s with mem := s.mem.fill a (Config.freeByte s.draws) n, draws := s.draws + 1 }

/-- DoRamSize (R64, 20_memory.md R108): RamSize takes effect and dirty lines are written back. The rows that become RAM
hold no line any more, and no line holds a block of the RAM; what the lines that change their use hold is any value (93
section 1.2). Rows locked by DoAllocate that become RAM are locked no more, and then all of the RAM holds any value (log 12,
DESIGN CHOICE). -/
def State.doRamSize (s : State) : ConfWrite :=
  let code := s.conf.ramSize
  if code = 2#2 then .stop .ramSize
  else
    let kept (row : Nat) : Bool := decide (ramRows code ≤ row)
    let s := s.flushLines fun _ => true
    let old := ramBytes s.cache.ramSize
    let new := ramBytes code
    let lo := if s.cache.locked.all (fun l => kept l.1) then Nat.min old new else 0
    let t := { s with cache := { s.cache with locked := s.cache.locked.filter fun l => kept l.1 } }
    let t := t.dropLines fun l => !l.row.any kept || onChipRam code (blockWord l.block 0)
    let t := t.lost (mostNeg + BitVec.ofNat 32 lo) (Nat.max old new - lo)
    .ok { t with cache := { t.cache with ramSize := code } }

/-- DoAllocate (R64, 20_memory.md R108): line RamLineNumber of the bank that RamAddress names is locked at RamAddress; what
it held is written back, and it fetches what memory holds there, any value where nothing decodes the address. On-chip RAM
whose line is taken away is lost (log 15, DESIGN CHOICE). -/
def State.doAllocate (s : State) : ConfWrite :=
  let row := s.conf.ramLineNumber.toNat
  let a := s.conf.ramAddress
  let b := blockOf a
  let other (l : Nat × Nat) : Bool := !(l.1 == row && l.2 % 4 == b % 4) && l.2 != b
  let taken (l : CacheLine) : Bool := (l.row == some row && l.block % 4 == b % 4) || l.block == b
  let home := mostNeg + BitVec.ofNat 32 (64 * row + 16 * (b % 4))
  let ram := onChipRam s.cache.ramSize home && !s.cache.relocked row (b % 4) && !s.cache.locks (blockOf home)
  let t := if ram then s.lost home 16 else s
  let t := ({ t with cache := { t.cache with locked := t.cache.locked.filter other } }.flushLines taken).dropLines taken
  let t := if t.target a == .none then t.lost a 16 else t
  .ok { t with cache := { t.cache with
    locked := (row, b) :: t.cache.locked
    lines := t.cache.lines ++ [⟨some row, b, .all false, t.mem.block b⟩] } }

/-- A write to a configuration address (R60 to R74), locks apart. -/
def State.confWrite (s : State) (a v : Word) : ConfWrite :=
  let c := s.conf
  let put (c : Conf) : ConfWrite := .ok { s with conf := c }
  let low := (a &&& 0xFF#32).toNat
  match (a >>> 8).toNat with
  | 0x01 =>
    match low with
    | 0x0F => put { c with minInvalidChannel := v &&& alignedMask }
    | 0x11 => put { c with initialIptr := v }
    | 0x12 => put { c with initialWptr := v &&& alignedMask }
    | 0x13 => put { c with reason := v }
    | 0x15 => put { c with emiBadAddress := v }
    | _ => .invalid
  | 0x02 =>
    if 0x02 ≤ low ∧ low ≤ 0x11 then put (c.bankWrite low v)
    else if low = 0x12 then put { c with pmiConfigured := true, activeBanks := c.banks }
    else .invalid
  | 0x04 =>
    if 0x01 ≤ low ∧ low ≤ 0x15 then put (c.strobeWrite low v)
    else if low = 0x16 then put { c with bootRemapped := true }
    else .invalid
  | 0x06 => if low = 0 then put { c with pmiWriteLock := v.getLsbD 0 } else .invalid
  | 0x08 =>
    if low = 0x02 then put { c with vcpStatus := 0#32, vcpStatusSet := false }
    else if low = 0x04 then s.vcpCommand v
    else if 0x05 ≤ low ∧ low ≤ 0x14 then
      if s.vcp.mode = .resetting then .stop .vcpResetting
      else if s.vcp.mode = .running then .stop .unitRunning
      else
        let n := (low - 5) / 4
        .ok { s with links := s.links.set n ((s.links.get n).vcpWrite low v) }
    else .invalid
  | 0x09 => if low = 0x01 then put { c with hdrAreaBase := v &&& alignedMask } else .invalid
  | 0x10 =>
    match low with
    | 0x03 => put { c with errorSinceReset := false, standAloneMode := v.getLsbD 1 }
    | 0x05 => put { c with speedMultiply := v.setWidth 6 }
    | 0x06 => put { c with sysServWriteLock := v.getLsbD 0 }
    | _ => .invalid
  | 0x20 =>
    match low with
    | 0x01 => put { c with ramSize := v.setWidth 2 }
    | 0x02 => if v.getLsbD 0 then s.doRamSize else .ok s
    | 0x03 => put { c with ramLineNumber := v.setWidth 8 }
    | 0x04 => put { c with ramAddress := v &&& 0xFFFFFFF0#32 }
    | 0x05 => if v.getLsbD 0 then s.doAllocate else .ok s
    | _ => .invalid
  | 0x41 =>
    match low with
    | 0x0E => put { c with memStart := v &&& alignedMask }
    | 0x10 => put { c with externalRCBase := v &&& alignedMask }
    | _ => .invalid
  | 0x49 => if low = 0 then put { c with chanWriteLock := v.getLsbD 0 } else .invalid
  | 0x80 => s.linkWrite 0 low v
  | 0x81 => s.linkWrite 1 low v
  | 0x82 => s.linkWrite 2 low v
  | 0x83 => s.linkWrite 3 low v
  | 0xFD => s.clinkWrite false low v
  | 0xFE => s.clinkWrite true low v
  | _ => .invalid

end Sys2Proof.Machine
end

