-- ==== Sys2Proof/Machine/Control.lean ====
section
/-! DEFINITION. Control: the control unit and its commands (47_vcp_config.md R690 to R698), and what each agent
does when it moves (00_scope.md R18). -/

namespace Sys2Proof.Machine

/-- Which commands a gross state admits (R692). -/
def Command.validIn (c : Command) (g : Gross) : Bool :=
  match c with
  | .start _ => true
  | .identify | .recoverError | .reset _ | .errorHandshake => g != .initial
  | .cpeek _ | .cpoke _ _ | .peek _ | .poke _ _ => g == .ready || g == .booting
  | .boot _ _ => g == .ready
  | .run _ _ => g == .ready
  | .bootData _ _ _ _ => g == .booting
  | .reboot => g == .ready || g == .booting
  | .stop => g == .running || g == .stopping

/-- A handshake (R695). -/
def State.reply (s : State) (c : Command) (valid : Bool) (data : Option Word) : State :=
  { s with ctl := s.ctl.send (.handshake c valid data) }

/-- The control unit looks whether an error message can go out (R697). -/
def State.reportErrors (s : State) : State := { s with ctl := s.ctl.sendErrors }

/-- The Stop command (R698): the VCP stops cleanly, or is told to where it waits (R643); the CPU runs to its next
descheduling or timeslicing point. R698 does not say what is signalled to a VCP that is resetting: nothing (log 31, DESIGN
CHOICE). -/
def State.stopCommand (s : State) : State :=
  if s.ctl.gross = .running then
    let t := s.stopFree Config.reasonStopped
    { t with
      ctl := { t.ctl with gross := .stopping }
      vcp := match s.vcp.mode with
        | .running => { s.vcp with mode := .stopping }
        | .waiting => { s.vcp with stopSignalled := true }
        | _ => s.vcp }
  else s

/-- Words stored by BootData while bytes of the sequence remain (R695). -/
def State.bootWords (s : State) : List Word → State
  | [] => s
  | d :: ds =>
    if s.ctl.bootRemaining = 0#32 then s
    else
      let s := s.aput s.ctl.bootPtr d
      let left := if s.ctl.bootRemaining ≤ 4#32 then 0#32 else s.ctl.bootRemaining - 4#32
      { s with ctl := { s.ctl with bootPtr := s.ctl.bootPtr + 4#32, bootRemaining := left } }.bootWords ds

/-- A configuration address that exists and cannot be read: what `CPeek` of it returns is any value (10_state.md R60, 93
section 1.1). -/
def confWriteOnly (a : Word) : Bool :=
  [0x2002#32, 0x2005#32, 0x8002#32, 0x8102#32, 0x8202#32, 0x8302#32, 0xFD02#32, 0xFE02#32].contains a

/-- The effect of a valid command (R695). A CPoke of a register that is only read is handshaken with a failure status, which
R695 has for an address outside the list (log 54, DESIGN CHOICE). -/
def State.runCommand (s : State) (c : Command) : State :=
  match c with
  | .start h =>
    let g := if s.ctl.gross = .initial then Gross.ready else s.ctl.gross
    ({ s with ctl := { s.ctl with returnHeader := some h, gross := g } }.reply c true none).reportErrors
  | .reset l =>
    if l = 1#8 then s.reset1.reply c true none
    else if l = 2#8 then s.reset2.reply c true none
    else if l = 3#8 then s.reset3.reply c true none
    else s.reply c false none
  | .identify => s.reply c true (some Config.deviceId)
  | .stop => s.stopCommand.reply c true none
  | .recoverError =>
    ({ s with ctl := { s.ctl with
        errorSent := none, ignored := s.ctl.ignored + s.ctl.unacked, unacked := 0 } }.reply c true none).reportErrors
  | .cpeek a =>
    match s.confRead (a.setWidth 32) with
    | some (v, m) => { s with draws := s.draws + 1 }.reply c true (some (confValue v m (s.drawn 0)))
    | none =>
      if confWriteOnly (a.setWidth 32) then { s with draws := s.draws + 1 }.reply c true (some (s.drawn 0))
      else s.reply c false none
  | .cpoke a v =>
    match s.confWrite (a.setWidth 32) v with
    | .ok t => t.reply c true none
    | .invalid => s.reply c false none
    | .stop f => s.note (.refuse f)
  | .peek a =>
    if a &&& 3#32 ≠ 0#32 then s.note (.refuse .controlAlignment)
    else if s.legal false false a then (s.readMiss a).reply c true (some (s.wordAt a))
    else s.reply c false none
  | .poke a v =>
    if a &&& 3#32 ≠ 0#32 then s.note (.refuse .controlAlignment)
    else if s.legal false true a then (s.agentPut a v).reply c true none
    else s.reply c false none
  | .boot n a =>
    if a &&& 3#32 ≠ 0#32 then s.note (.refuse .controlAlignment)
    else { s with ctl := { s.ctl with bootPtr := a, bootRemaining := n, gross := .booting } }.reply c true none
  | .bootData d0 d1 d2 d3 =>
    let s := s.bootWords [d0, d1, d2, d3]
    let g := if s.ctl.bootRemaining = 0#32 then Gross.ready else Gross.booting
    { s with ctl := { s.ctl with gross := g } }.reply c true none
  | .run w i => (s.startExec s.r s.conf.reason s.ctl.haltError w i).reply c true none
  | .reboot => (s.startFromRom s.r s.conf.reason s.ctl.haltError).reply c true none
  | .errorHandshake =>
    match s.ctl.errorSent with
    | some e =>
      { s with ctl := { s.ctl with errors := s.ctl.errors.filter (· != e), errorSent := none } }.reportErrors
    | none => s

/-- A packet has come in on CLink0: the link is started by its first token, and the first packet fixes the label (R691; when
the start ends a ResetOutput: log 34, DESIGN CHOICE). -/
def State.clink0In (s : State) (header : Half) : State :=
  { s with
    clink0 := s.clink0.tokenStarted
    ctl := { s.ctl with label := some (s.ctl.label.getD header) } }

/-- A packet for another device goes down CLink1, or is destroyed where CLink1 is inactive (R691). -/
def State.forwardDown (s : State) (header : Half) (c : Option Command) : State :=
  if s.clink1.started then { s with ctl := { s.ctl with down := s.ctl.down ++ [(header, c)] } } else s.clinkError 0xC1#8

/-- The acknowledge packet of a packet received, behind the return header as it is before the packet's command is executed
(R691, R695); for the first Start behind the header it brings (log 54, DESIGN CHOICE). -/
def State.acknowledge (s : State) (c : Option Command) : State :=
  match s.ctl.returnHeader, c with
  | some h, _ => { s with ctl := { s.ctl with up := s.ctl.up ++ [(h, .acknowledge)] } }
  | none, some (.start h) => { s with ctl := { s.ctl with up := s.ctl.up ++ [(h, .acknowledge)] } }
  | _, _ => s

/-- A Start. -/
def Command.isStart (c : Command) : Bool :=
  match c with
  | .start _ => true
  | _ => false

/-- A command that may be sent while another is in progress (R691). -/
def Command.anyTime (c : Command) : Bool :=
  match c with
  | .reset _ => true
  | .recoverError => true
  | .errorHandshake => true
  | _ => false

/-- A command packet on CLink0 (R691): one of this device becomes the command in progress, if none is. Of the three that may
come at any time Reset and RecoverError take the place of the command in progress, whose handshake is suppressed (R695,
R779; log 54, DESIGN CHOICE), and an ErrorHandshake is executed at once. A first packet that is no Start is the command error
#C0: R691 says an error, and 60_exceptions.md R745 not which (log 54, DESIGN CHOICE). -/
def State.commandPacket (s : State) (header : Half) (c : Command) : State :=
  let known := s.ctl.label.isSome
  let s := s.clink0In header
  if s.ctl.label ≠ some header then s.forwardDown header (some c)
  else
    let s := s.acknowledge (some c)
    match c with
    | .errorHandshake => if known then s.runCommand c else s.clinkError 0xC0#8
    | _ =>
      if !known && !c.isStart then s.clinkError 0xC0#8
      else if s.ctl.inProgress.isSome && !c.anyTime then s.clinkError 0xC1#8
      else { s with ctl := { s.ctl with inProgress := some c } }

/-- The command in progress is executed and handshaken; one that its gross state does not admit is handshaken with a failure
status (R692). -/
def State.handshake (s : State) : State :=
  match s.ctl.inProgress with
  | none => s
  | some c =>
    let t := { s with ctl := { s.ctl with inProgress := none } }
    if c.validIn s.ctl.gross then t.runCommand c else t.reply c false none

/-- A packet on CLink0 that is no command (60_exceptions.md R745). -/
def State.badCommandPacket (s : State) (header : Half) : State :=
  let s := s.clink0In header
  if s.ctl.label ≠ some header then s.forwardDown header none else (s.acknowledge none).clinkError 0xC0#8

/-- A message of the device itself, which is to be acknowledged: a handshake or an Error message. -/
def Message.isOwn (m : Message) : Bool :=
  match m with
  | .handshake _ _ _ => true
  | .error _ => true
  | .forwarded _ => false
  | .acknowledge => false

/-- How many messages that have gone out on CLink0 await their acknowledge: those in its buffer have not gone out. -/
def Control.awaiting (c : Control) : Nat := c.unacked - c.up.countP fun m => m.2.isOwn

/-- An acknowledge packet arrives on CLink0 (R691, R697): of a message from before a hard reset or RecoverError (`late`) it
is ignored (70_reset_and_hazards.md R779; log 35, DEDUCED); where no message awaits one it is an error (R745), which R745 pairs
with no code: the protocol error #C1 (log 54, DESIGN CHOICE). -/
def State.messageAck (s : State) (late : Bool) : State :=
  if late && s.ctl.ignored != 0 then { s with ctl := { s.ctl with ignored := s.ctl.ignored - 1 } }
  else if late || s.ctl.awaiting == 0 then s.clinkError 0xC1#8
  else State.reportErrors { s with ctl := { s.ctl with unacked := s.ctl.unacked - 1 } }

/-- CLink0 has an error: its output is halted, which the device at the other end will report (R697), and what was in its
buffer is lost (R649). -/
def State.clink0Error (s : State) (parity : Bool) : State :=
  match s.clink0.failed parity with
  | some l => { s with clink0 := l, ctl := { s.ctl with up := [] } }
  | none => s

/-- CLink1 has an error: recorded in its status, the link reset, and reported unless CLink1Mode.LocalizeError masks it
(10_state.md R71, 60_exceptions.md R745). -/
def State.clink1Error (s : State) (parity : Bool) : State :=
  match s.clink1.failed parity with
  | some l =>
    let t := { s with clink1 := l, ctl := { s.ctl with down := [] } }
    if l.mode.getLsbD 3 then t else t.clinkError 0xC2#8
  | none => s

/-- A packet arrives on CLink1 and is forwarded to CLink0 unchanged (R691). -/
def State.clink1In (s : State) (body : List Byte) : State :=
  if s.clink1.started then
    { s with
      clink1 := { s.clink1 with tokenReceived := true }
      ctl := { s.ctl with up := s.ctl.up ++ [(0#16, .forwarded body)] } }
  else s

/-- The oldest packet in the buffer of a control link goes out, when the link works. -/
def State.clinkTaken (s : State) (down : Bool) : State :=
  if down then (if s.clink1.sends then { s with ctl := { s.ctl with down := s.ctl.down.tail } } else s)
  else if s.clink0.sends then { s with ctl := { s.ctl with up := s.ctl.up.tail } }
  else s

/-- A byte of external memory written by another bus master (20_memory.md R106): where the cache holds the word, the
on-chip agents go on seeing what it holds (log 15, DESIGN CHOICE). -/
def State.busWrite (s : State) (a : Word) (v : Byte) : State :=
  if !s.keeps a then s
  else if s.cache.holds (blockOf a) then { s with cache := s.cache.external a fun m => m.write a.toNat v }
  else
    match s.target a with
    | .bank _ => { s.foreignWrite (wordAddr a) with mem := s.mem.write a.toNat v }
    | _ => s

/-- One event of an agent other than the CPU. A tick only advances the clocks: each expiry that it makes due is an event of
its own, and anything can come between (00_scope.md R18, 92_eei_decisions.md D5; log 6, DESIGN CHOICE). -/
def State.agentStep (s : State) (e : Event) : State :=
  match e with
  | .cpu _ => s
  | .tick => s.tick
  | .serveTimer low => s.serveTimer low
  | .eventPin n level => s.eventPinChange n level
  | .packetIn n p => s.packetArrives n p
  | .vcpAccept n => s.vcpAccept n
  | .vcpServe k => s.vcpServe k
  | .eventServe e => s.eventServe e
  | .vcpSend n => s.vcpSend n
  | .byteSend n => s.byteSend n
  | .byteReply n => s.byteReply n
  | .wireTaken n => s.wireTaken n
  | .vcpResetDone => if s.vcp.mode = .resetting then { s with vcp := { s.vcp with mode := .waiting } } else s
  | .linkToken n => { s with links := s.links.set n (s.links.get n).token }
  | .linkError n parity => s.linkErrorEvent n parity
  | .fill b => s.readMiss (blockWord (b % 2 ^ 28) 0)
  | .busWrite a v => s.busWrite a v
  | .clinkToken one =>
    if one then { s with clink1 := s.clink1.token }
    else { s with clink0 := s.clink0.tokenStarted }
  | .command h c => s.commandPacket h c
  | .badCommand h => s.badCommandPacket h
  | .handshake => s.handshake
  | .clink0Error parity => s.clink0Error parity
  | .clink1Error parity => s.clink1Error parity
  | .clink1In body => s.clink1In body
  | .messageAck late => s.messageAck late
  | .clinkTaken down => s.clinkTaken down
  | .hardReset rom => s.hardReset rom

end Sys2Proof.Machine
end

