-- ==== Sys2Proof/Machine/Channel.lean ====
section
/-! DEFINITION. Channel: the meanings of the communication instructions and of the instructions on single channels
(43_channels_alt.md R390 to R396, R437 to R439). `s` is the state with IptrReg at NextInst and EptrReg at the
instruction. -/

namespace Sys2Proof.Machine

/-- The checks on a channel address (R383): `ok` says which kinds the instruction accepts. -/
def State.channelArg (s : State) (a : Word) (ok : ChanKind → Bool) (k : Word → Out) : Out :=
  s.alignW a fun c => s.check (ok (s.kind c)) (k c)

/-- Every legal channel. -/
def ChanKind.legal (k : ChanKind) : Bool := k != .invalid

/-- A virtual channel. -/
def ChanKind.isVirt (k : ChanKind) : Bool :=
  match k with
  | .virt _ _ => true
  | _ => false

/-! ## Communication (R390 to R396) -/

/-- `in` (R390). -/
def execInput (s : State) : Out :=
  s.privileged (s.channelArg s.r.breg ChanKind.legal fun c => s.communicate s false c s.r.creg s.r.areg false false)

/-- `out` (R391). -/
def execOutput (s : State) : Out :=
  s.privileged (s.channelArg s.r.breg ChanKind.legal fun c => s.communicate s true c s.r.creg s.r.areg false false)

/-- The value that `outbyte` or `outword` outputs, put in pw.Temp (R392); it is there when the instruction goes on. -/
def State.putTemp (s : State) : State := if s.resuming then s else s.iput s.r.wptr s.r.areg

/-- `outbyte` (R392). -/
def execOutbyte (s : State) : Out :=
  s.privileged (s.channelArg s.r.breg ChanKind.legal fun c => s.communicate s.putTemp true c s.r.wptr 1#32 false true)

/-- `outword` (R393). -/
def execOutword (s : State) : Out :=
  s.privileged (s.channelArg s.r.breg ChanKind.legal fun c => s.communicate s.putTemp true c s.r.wptr 4#32 false true)

/-- `vin` (R394). -/
def execVin (s : State) : Out :=
  s.privileged (s.channelArg s.r.breg ChanKind.legal fun c =>
    s.check (s.r.areg != 0xFFFFFFFF#32) (s.communicate s false c s.r.creg s.r.areg true false))

/-- `vout` (R395). -/
def execVout (s : State) : Out :=
  s.privileged (s.channelArg s.r.breg ChanKind.legal fun c => s.communicate s true c s.r.creg s.r.areg true false)

/-- `ldcnt` (R396). -/
def execLdcnt (s : State) : Out :=
  s.privileged
    (let t := s.touch false (s.r.slot (-4))
     let v := s.wordAt (s.r.slot (-4))
     s.check (v != lengthErrorP) (s.finish (t.push v)))

/-! ## Reset, stop, type (R437 to R439) -/

/-- The descriptor that `resetch` returns: of the process on a channel end, else of one whose output `stopch` has stopped
(R437, R438; log 36, DEDUCED); NotProcess.p where there is none. -/
def ChanEnd.waiting (e : ChanEnd) : Word := if e.inUse then e.user else e.prior.getD notProcess

/-- A channel end reset to the empty state; activation and mode stay (R437), and so do processes that have stopped it. -/
def ChanEnd.emptied (e : ChanEnd) : ChanEnd :=
  { e with
    state := .empty, queued := false, stopping := false, pendingPacket := none, pendingSchedule := none, prior := none }

/-- A channel end reset (R437); a process that a `stopch` of it keeps waiting runs again, or its schedule is held
(log 36, DEDUCED). -/
def State.resetEnd (s : State) (e : ChanEnd) : ChanEnd × State := s.runStoppers e.emptied

/-- `resetch` of an external channel (R437), of which no data packet stays queued (log 36, DEDUCED); of an input an acknowledge
queued already stays so, of which R437 says nothing (log 78, DESIGN CHOICE): the word returned and the state, or why it stops
(log 64, DEDUCED). -/
def State.resetExternal (s : State) (c : Word) : Except Fault (Word × State) :=
  match s.kind c with
  | .virt k out =>
    if s.vcp.mode = .resetting then .error .vcpResetting
    else
      let v := s.vlcbFor k out
      if out then
        let (e, t) := (s.unqueue k true false).resetEnd v.out
        .ok (v.out.waiting, t.setVlcb k { v with out := e })
      else
        let (e, t) := s.resetEnd v.inp
        .ok (v.inp.waiting, t.setVlcb k { v with inp := e, held := none })
  | .event e _ =>
    .ok (processOf (s.wordAt c), ((s.agentTouch false c).aput c notProcess).setPair e (s.events.get e).afterReset)
  | .byteStream n =>
    if s.vcp.mode = .resetting then .error .vcpResetting
    else
      let l := s.links.get (byteLink n)
      let q := s.queues (byteLink n)
      let t := ((s.agentTouch false c).aput c notProcess).setQueues (byteLink n)
        (if byteIsOut n then { LinkQueues.empty with byteIn := q.byteIn } else { LinkQueues.empty with byteOut := q.byteOut })
      let t := { t with links := s.links.set (byteLink n) l.resetEngine.startEngine, draws := s.draws + 1 }
      .ok (orFree (l.vcpMode.getLsbD 0) (s.wordAt c) (s.drawn 0), t)
  | _ => .error .channelDirection

/-- `resetch` (R437). -/
def execResetch (s : State) : Out :=
  s.privileged (s.channelArg s.r.areg ChanKind.legal fun c =>
    match s.kind c with
    | .internal => s.finish (((s.touch false c).iput c notProcess).setA (s.wordAt c))
    | _ =>
      match s.resetExternal c with
      | .ok (w, t) => s.finish (t.setA w)
      | .error f => .fault f)

/-- `stopch` (R438) (log 36, DEDUCED). Of an output that is stopping already a second `stopch` goes on at
once (log 73, DESIGN CHOICE). The acknowledge of a packet that a stopped input holds has the priority of the process that
executes `stopch` (log 78, DESIGN CHOICE). -/
def execStopch (s : State) : Out :=
  s.privileged (s.channelArg s.r.areg ChanKind.isVirt fun c =>
    match s.kind c with
    | .virt k out =>
      if s.vcp.mode = .resetting then .fault .vcpResetting
      else
        let v := s.vlcbFor k out
        if out then
          match v.out.state with
          | .comm d _ _ _ _ sent =>
            if v.out.stopping then s.finish (s.setVlcb k v).undefPoint
            else
              let e := { v.out with
                stopping := sent, state := .empty, stoppers := v.out.stoppers ++ [s.r.wdesc], pendingPacket := none
                prior := some d }
              let (e, t) := if sent then (e, s.saveContext) else (s.saveContext.unqueue k true false).runStoppers e
              s.leave (t.setVlcb k { v with out := e })
          | _ => s.finish (s.setVlcb k v).undefPoint
        else
          let v := { v with inp := { v.inp with stopping := true } }
          let (v, t) := if v.held.isSome then s.ackInput k { v with held := none } s.r.low else (v, s)
          s.finish (t.setVlcb k v).undefPoint
    | _ => .fault .channelDirection)

/-- `chantype` (R439). -/
def execChantype (s : State) : Out :=
  s.privileged (s.channelArg s.r.areg ChanKind.legal fun c => s.finish (s.setA (boolWord (s.kind c == .internal))))

end Sys2Proof.Machine
end

