-- ==== Sys2Proof/Machine/Alt.lean ====
section
/-! DEFINITION. Alt: the meanings of the instructions of an alternative (43_channels_alt.md R410 to R422). `s` is
the state with IptrReg at NextInst and EptrReg at the instruction. -/

namespace Sys2Proof.Machine

/-! ## Enabling and disabling external channels (R413, R419) -/

/-- A data packet, or the notice of an unsolicited byte, waits on a byte-stream link: a packet that has arrived and is no
acknowledge (R387). That the channel is ready for an alternative then is the model's reading (R413; log 68, DEDUCED). -/
def LinkQueues.dataWaiting (q : LinkQueues) : Bool :=
  match q.arrived with
  | p :: _ => !p.isAck
  | [] => false

/-- An input event channel is ready for an alternative (R413, R440): the event has come, and the channel is not
deactivated. -/
def State.eventReady (s : State) (e : Nat) : Bool :=
  (s.events.get e).ready && s.wordAt (eventWord e + 4#32) != deactivatedP && !s.holding

/-- A virtual input channel is ready for an alternative (R413): a packet is held, and the channel is neither in resource
mode nor deactivated (log 68, DEDUCED), nor stopping (log 36, DEDUCED). -/
def Vlcb.inputReady (v : Vlcb) : Bool := v.held.isSome && v.inp.active && !v.inp.resource && !v.inp.stopping

/-- The VCP enables an external channel for the current process; the answer says whether it is ready. An output channel
address is refused (log 65, DESIGN CHOICE), and so is an event channel whose word 0 holds Deactivated.p (log 81, DESIGN
CHOICE). Of a channel in resource mode nothing is recorded, and a packet or an event makes
its claim (log 68, DEDUCED). -/
def State.enableExternal (s : State) (c : Word) : Except Fault (Bool × State) :=
  match s.kind c with
  | .virt k false =>
    let v := s.vlcbFor k false
    match s.vcpRefusal k with
    | some f => .error f
    | none =>
      match v.inp.state with
      | .comm _ _ _ _ _ _ => .error .channelBusy
      | .enabled d => if d = s.r.wdesc then .ok (v.inputReady, s.setVlcb k v) else .error .channelBusy
      | .empty =>
        if v.inp.pendingSchedule.isSome then .error .channelBusy
        else if v.inp.resource then .ok (false, s.setVlcb k v)
        else .ok (v.inputReady, s.setVlcb k { v with inp := { v.inp with state := .enabled s.r.wdesc } })
  | .event e false =>
    let p := s.events.get e
    let x := s.wordAt c
    let t := s.touchPair e
    if x = resChanP then .ok (false, t)
    else if x ≠ notProcess ∧ x ≠ s.r.wdesc then .error .channelBusy
    else .ok (s.eventReady e, (t.aput c s.r.wdesc).setPair e { p with enabled := true })
  | .byteStream n =>
    let q := s.queues (byteLink n)
    if byteIsOut n then .error .channelDirection
    else if s.vcp.mode = .resetting then .error .vcpResetting
    else if !(s.links.get (byteLink n)).vcpMode.getLsbD 0 then .error .byteStream
    else if q.byteIn.isSome || (s.wordAt c != notProcess && s.wordAt c != s.r.wdesc) then .error .channelBusy
    else .ok (q.dataWaiting, (s.agentTouch false c).aput c s.r.wdesc)
  | _ => .error .channelDirection

/-- The VCP disables an external channel; the answer says whether it was ready. -/
def State.disableExternal (s : State) (c : Word) : Except Fault (Bool × State) :=
  match s.kind c with
  | .virt k false =>
    let v := s.vlcbFor k false
    match s.vcpRefusal k with
    | some f => .error f
    | none =>
      let e := if v.inp.state = .enabled s.r.wdesc then { v.inp with state := .empty } else v.inp
      .ok (v.inputReady, s.setVlcb k { v with inp := e })
  | .event e false =>
    let p := s.events.get e
    let t := s.touchPair e
    let t := if s.wordAt c = s.r.wdesc then t.aput c notProcess else t
    .ok (s.eventReady e && s.wordAt c != resChanP, t.setPair e { p with enabled := false })
  | .byteStream n =>
    let q := s.queues (byteLink n)
    if byteIsOut n then .error .channelDirection
    else if s.vcp.mode = .resetting then .error .vcpResetting
    else if !(s.links.get (byteLink n)).vcpMode.getLsbD 0 then .error .byteStream
    else
      let t := s.agentTouch false c
      .ok (q.dataWaiting, if s.wordAt c = s.r.wdesc then t.aput c notProcess else t)
  | _ => .error .channelDirection

/-! ## Guards -/

/-- A ready guard: it is selected if none has been (pw.Temp), its code offset going there. -/
def State.select (s : State) (offset : Word) : Bool × State :=
  let t := s.touch false s.r.wptr
  if s.wordAt s.r.wptr = noneSelectedO then (true, t.iput s.r.wptr offset) else (false, t)

/-- pw.State becomes Ready.p where a guard is ready. -/
def State.guardReady (s : State) (c : Bool) : State := if c then s.iput (s.r.slot (-4)) readyP else s

/-- `Areg' ← a; Breg' ← undefined; Creg' ← undefined`, with the end of the instruction. -/
def State.disabled (s0 s : State) (a : Bool) : Out := s0.finish (s.oneResult (boolWord a))

/-- The end of a disabling instruction whose guard is ready. -/
def State.disabledReady (s0 s : State) : Out := s0.disabled (s.select s0.r.areg).2 (s.select s0.r.areg).1

/-! ## The instructions -/

/-- `alt` (R410). -/
def execAlt (s : State) : Out := s.privileged (s.finish (s.iput (s.r.slot (-4)) enablingP))

/-- `talt` (R411). -/
def execTalt (s : State) : Out :=
  s.privileged (s.finish ((s.iput (s.r.slot (-4)) enablingP).iput (s.r.slot (-5)) timeNotSetP))

/-- `enbs` (R412). -/
def execEnbs (s : State) : Out := s.privileged (s.finish (s.guardReady (s.r.areg != 0#32)))

/-- `enbc` (R413). -/
def execEnbc (s : State) : Out :=
  s.privileged
    (if s.r.areg = 0#32 then s.finish (s.dyadic s.r.areg)
     else s.channelArg s.r.breg ChanKind.legal fun c =>
       match s.kind c with
       | .internal =>
         let t := s.touch false c
         let x := s.wordAt c
         let t := if x = notProcess then t.iput c s.r.wdesc else t.guardReady (x != s.r.wdesc)
         s.finish (t.dyadic s.r.areg)
       | _ =>
         match s.enableExternal c with
         | .ok (ready, t) => s.finish ((t.guardReady ready).dyadic s.r.areg)
         | .error f => .fault f)

/-- `enbt` (R414). -/
def execEnbt (s : State) : Out :=
  s.privileged
    (if s.r.areg = 0#32 then s.finish (s.dyadic s.r.areg)
     else
       let t := s.touch false (s.r.slot (-5))
       let l := s.wordAt (s.r.slot (-5))
       let t := if l = timeNotSetP then (t.iput (s.r.slot (-5)) timeSetP).iput (s.r.slot (-6)) s.r.breg
         else if l = timeSetP then
           let t := t.touch false (s.r.slot (-6))
           if after (s.wordAt (s.r.slot (-6))) s.r.breg then t.iput (s.r.slot (-6)) s.r.breg else t
         else t
       s.finish (t.dyadic s.r.areg))

/-- `enbg` (R417). -/
def execEnbg (s : State) : Out :=
  s.privileged
    (if s.r.areg = 0#32 then s.finish (s.dyadic s.r.areg)
     else s.alignW s.r.breg fun a =>
       let t := (s.iput a s.r.wdesc).touch false (atw a 1)
       s.finish ((t.guardReady (s.wordAt (atw a 1) != notProcess)).dyadic s.r.areg))

/-- `taltwt` (R415), which reads pw.TLink where no guard is ready, and pw.Time where that is TimeSet.p; of a pw.State that is
no state of an alternative it asks no more than the rule's text does (log 76, DESIGN CHOICE). Interrupted in the search of the
list, it goes on with the search unless a guard has become ready. -/
def execTaltwt (s : State) : Out :=
  s.privileged
    (let p := s.r.slot (-4)
     let l := s.r.slot (-5)
     let m := s.r.slot (-6)
     let clock := (s.sched s.r.low).clock
     let t := s.touch false p
     let u := t.touch false l
     if s.wordAt p = readyP then s.finish ((t.iput m clock).iput s.r.wptr noneSelectedO).undefPoint
     else if s.wordAt l = timeNotSetP then s.deschedule ((u.iput p waitingP).iput s.r.wptr noneSelectedO)
     else if s.wordAt l = timeSetP then
       let t := u.touch false m
       if !s.resuming && after clock (s.wordAt m) then
         s.finish (((t.iput p readyP).iput m clock).iput s.r.wptr noneSelectedO).undefPoint
       else if s.searchSplit then s.suspendedFree.done
       else
         let time := s.wordAt m + 1#32
         let t := ((t.iput m time).timerInsert s.r.low s.r.wptr time runFuel none).iput p waitingP
         s.deschedule (t.iput s.r.wptr noneSelectedO)
     else .fault .altDiscipline)

/-- `altwt` (R416). -/
def execAltwt (s : State) : Out :=
  s.privileged
    (let t := (s.touch false (s.r.slot (-4))).iput s.r.wptr noneSelectedO
     if s.wordAt (s.r.slot (-4)) = readyP then s.finish t.undefPoint
     else s.deschedule (t.iput (s.r.slot (-4)) waitingP))

/-- `diss` (R418). -/
def execDiss (s : State) : Out :=
  s.privileged
    (if s.r.breg = 0#32 then s.finish (s.dyadic 0#32)
     else s.finish ((s.select s.r.areg).2.dyadic (boolWord (s.select s.r.areg).1)))

/-- `disc` (R419). -/
def execDisc (s : State) : Out :=
  s.privileged
    (if s.r.breg = 0#32 then s.disabled s false
     else s.channelArg s.r.creg ChanKind.legal fun c =>
       match s.kind c with
       | .internal =>
         let t := s.touch false c
         if s.wordAt c = notProcess then s.disabled t false
         else if s.wordAt c = s.r.wdesc then s.disabled (t.iput c notProcess) false
         else s.disabledReady t
       | _ =>
         match s.disableExternal c with
         | .ok (true, t) => s.disabledReady t
         | .ok (false, t) => s.disabled t false
         | .error f => .fault f)

/-- `disg` (R420), which reads rds.Front where rds.Proc is not NotProcess.p. -/
def execDisg (s : State) : Out :=
  s.privileged
    (if s.r.breg = 0#32 then s.disabled s false
     else s.alignW s.r.creg fun a =>
       let t := s.touch false a
       if s.wordAt a = notProcess then s.disabled t false
       else
         let t := (t.touch false (atw a 1)).iput a notProcess
         if s.wordAt (atw a 1) = notProcess then s.disabled t false else s.disabledReady t)

/-- `dist` (R421, D37), which reads pw.Time where pw.TLink is TimeSet.p. Interrupted in the search of the list, it begins again. -/
def execDist (s : State) : Out :=
  s.privileged
    (if s.r.breg = 0#32 then s.disabled s false
     else
       let l := s.r.slot (-5)
       let t := s.touch false l
       if s.wordAt l = timeNotSetP then s.disabled t false
       else if s.wordAt l = timeSetP then
         let t := t.touch false (s.r.slot (-6))
         if after (s.wordAt (s.r.slot (-6))) s.r.creg then s.disabledReady t else s.disabled t false
       else if s.searchSplit then s.suspendedFree.done
       else s.disabled ((t.timerRemove s.r.low s.r.wptr runFuel none).iput l timeNotSetP) false)

/-- `altend` (R422). -/
def execAltend (s : State) : Out :=
  s.privileged (s.finish ((s.touch false s.r.wptr).setIptr (s.r.iptr + s.wordAt s.r.wptr)))

end Sys2Proof.Machine
end

