-- ==== Sys2Proof/Machine/Block.lean ====
section
/-! DEFINITION. Block: the block moves of 41_control_blockmove.md (R281, R285 to R293). -/

namespace Sys2Proof.Machine

/-! ## Copying -/

/-- The blocks of a move: `rows` rows of `width` bytes, the addresses of the first rows and the strides from a row
to the next (R287; a one-dimensional move has one row). -/
structure Blocks where
  rows : Nat
  width : Nat
  dst : Word
  src : Word
  dstStride : Word
  srcStride : Word
  deriving DecidableEq, Repr

/-- How many bytes the blocks have. -/
abbrev Blocks.size (b : Blocks) : Nat := b.rows * b.width

/-- The destination address of byte `i`. -/
def Blocks.dstAt (b : Blocks) (i : Nat) : Word :=
  b.dst + BitVec.ofNat 32 (i / b.width) * b.dstStride + BitVec.ofNat 32 (i % b.width)

/-- The source address of byte `i`. -/
def Blocks.srcAt (b : Blocks) (i : Nat) : Word :=
  b.src + BitVec.ofNat 32 (i / b.width) * b.srcStride + BitVec.ofNat 32 (i % b.width)

/-- Two rows of `width` bytes share a byte. -/
def rowsMeet (p q : Word) (width : Nat) : Bool := decide ((p - q).toNat < width) || decide ((q - p).toNat < width)

/-- Source and destination overlap (R293). -/
def Blocks.overlap (b : Blocks) : Bool :=
  (List.range b.rows).any fun y => (List.range b.rows).any fun z =>
    rowsMeet (b.dst + BitVec.ofNat 32 y * b.dstStride) (b.src + BitVec.ofNat 32 z * b.srcStride) b.width

/-- Which source bytes are copied (R287 to R289). -/
inductive Keep where
  | all | nonzero | zero
  deriving DecidableEq, Repr

/-- A source byte is copied. -/
def Keep.takes (k : Keep) (v : Byte) : Bool :=
  match k with
  | .all => true
  | .nonzero => v != 0#8
  | .zero => v == 0#8

/-- What stops a move before its end. -/
inductive BlockStop where
  | violation (i : Nat)
  | invalid
  deriving DecidableEq, Repr

/-- The first of `n` bytes, from byte `i` on, at which translation stops the move (20_memory.md R122). -/
def State.blockStop (s : State) (dev : Bool) (b : Blocks) (k : Keep) : Nat → Nat → Option BlockStop
  | 0, _ => none
  | n + 1, i =>
    match s.r.translate dev .read (b.srcAt i) with
    | .violation => some (.violation i)
    | .invalid => some .invalid
    | .ok p =>
      if k.takes (s.byteFor dev p) then
        match s.r.translate dev .write (b.dstAt i) with
        | .violation => some (.violation i)
        | .invalid => some .invalid
        | .ok _ => s.blockStop dev b k n (i + 1)
      else s.blockStop dev b k n (i + 1)

/-- One byte of a move written at a destination address; `whole` where it is the last of a word the move has written
whole. -/
def State.moveByte (s : State) (dev : Bool) (a : Word) (v : Byte) (whole : Bool) : State :=
  let p := s.r.place dev .write a
  if s.outOfBounds p then s.note (.refuse .vlcbMemory)
  else if s.legal dev true p then ((s.putByte dev p v).wordCopied whole p).watchWrite a
  else s.note (.illegal p)

/-- `n` bytes from byte `i` on moved one after another; of overlapping blocks the destination becomes anything
(D34), `free` being the draw. An access that nothing decodes ends the move. -/
def State.moveBytes (s : State) (dev : Bool) (b : Blocks) (k : Keep) (free : Option Nat) : Nat → Nat → State
  | 0, _ => s
  | n + 1, i =>
    let p := s.r.place dev .read (b.srcAt i)
    if s.trouble.isSome then s
    else if s.outOfBounds p then s.note (.refuse .vlcbMemory)
    else if !s.legal dev false p then s.note (.illegal p)
    else
      let v := s.byteFor dev p
      let a := b.dstAt i
      let whole := k == .all && a &&& 3#32 == 3#32 && decide (3 ≤ i % b.width)
      let u := s.loadMiss dev p
      let t := match free with
        | some d => u.moveByte dev a (Config.freeByte d i) whole
        | none => if k.takes v then u.moveByte dev a v whole else u
      t.moveBytes dev b k free n (i + 1)

/-- The first `n` bytes of a block move: where a byte is a violation any number of the bytes before it has been moved
(60_exceptions.md R709). Of overlapping blocks every destination byte is written, whatever is taken. -/
def State.moveSome (s : State) (dev : Bool) (b : Blocks) (k : Keep) (n : Nat) (f : State → Out) : Out :=
  let free := if b.overlap then some s.draws else none
  let k := if b.overlap then .all else k
  let t := if b.overlap then { s with draws := s.draws + 1 } else s
  match s.blockStop dev b k n 0 with
  | some .invalid => .fault .regionDescriptor
  | some (.violation i) =>
    let u := { t with draws := t.draws + 1 }.moveBytes dev b k free ((t.drawn 0).toNat % (i + 1)) 0
    if u.trouble.isSome then u.done else u.errTrap etAccessViolation
  | none =>
    let u := t.moveBytes dev b k free n 0
    if u.trouble.isSome then u.done else f u

/-- A block move: `f` ends it. Where an agent comes between after `m` of its bytes, `g` says how the registers go on
(R290); a move of overlapping blocks begins again. -/
def State.moveAll (s : State) (dev : Bool) (b : Blocks) (k : Keep) (f : State → State) (g : Nat → State → State) : Out :=
  let whole := s.moveSome dev b k b.size fun t => s.finish (f t)
  match s.cpuMode with
  | .part m =>
    if m < b.size then
      s.moveSome dev b k m fun t => (if b.overlap then t else g m t).suspendedFree.done
    else whole
  | _ => whole

/-! ## One-dimensional moves -/

/-- The blocks of `move` (R285). -/
def Regs.blocks (r : Regs) (n : Nat) : Blocks := ⟨1, n, r.breg, r.creg, 0#32, 0#32⟩

/-- A one-dimensional move (R285, R281): interrupted, its registers go on behind the bytes moved. -/
def State.moveBlock (s : State) (dev : Bool) : Out :=
  s.moveAll dev (s.r.blocks s.r.areg.toNat) .all State.undefStack fun m t =>
    let d := BitVec.ofNat 32 m
    t.setABC (s.r.areg - d) (s.r.breg + d) (s.r.creg + d)

/-- `move` (R285). -/
def execMove (s : State) : Out := s.moveBlock false

/-- `devmove` (R281). -/
def execDevmove (s : State) : Out := s.device.moveBlock true

/-! ## Two-dimensional moves -/

/-- `move2dinit` (R286). -/
def execMove2dinit (s : State) : Out :=
  s.finish { s with r := { s.r with bm0 := s.r.areg, bm1 := s.r.breg, bm2 := s.r.creg } }.undefStack

/-- `stmove2dinit` (R291). -/
def execStmove2dinit (s : State) : Out :=
  s.alignW s.r.areg fun a => s.storeWs a [s.r.bm0, s.r.bm1, s.r.bm2] fun t => s.finish t.pop1

/-- The blocks of a two-dimensional move (R287). -/
def Regs.blocks2d (r : Regs) (rows : Nat) : Blocks := ⟨rows, r.areg.toNat, r.breg, r.creg, r.bm1, r.bm2⟩

/-- The block move registers undefined. -/
def State.undefBM (s : State) : State :=
  { s with
    r := { s.r with bm0 := s.drawn 0, bm1 := s.drawn 1, bm2 := s.drawn 2 }
    draws := s.draws + 3 }

/-- A two-dimensional move (R287 to R289): interrupted, its registers go on behind the whole rows moved, and a row
moved in part is moved again. -/
def State.move2d (s : State) (k : Keep) : Out :=
  s.moveAll false (s.r.blocks2d s.r.bm0.toNat) k (fun t => t.undefStack.undefBM) fun m t =>
    let d := BitVec.ofNat 32 (m / s.r.areg.toNat)
    let u := t.setABC s.r.areg (s.r.breg + d * s.r.bm1) (s.r.creg + d * s.r.bm2)
    { u with r := { u.r with bm0 := s.r.bm0 - d } }

/-- `move2dall` (R287). -/
def execMove2dall (s : State) : Out := s.move2d .all

/-- `move2dnonzero` (R288). -/
def execMove2dnonzero (s : State) : Out := s.move2d .nonzero

/-- `move2dzero` (R289). -/
def execMove2dzero (s : State) : Out := s.move2d .zero

end Sys2Proof.Machine
end

