-- ==== Sys2Proof/Syntax.lean ====
section
/-! DEFINITION. Syntax: the one inductive of instructions, one constructor per row of the opcode table.
A primary instruction carries its whole operand `n` (30_encoding.md R140); `pfix` and `nfix` carry the
four data bits of one prefixing component (R132); `opr` carries an operation code that names no
instruction (R137), because an assigned code is the constructor of its own row. The rows `in` and `out`
are the constructors `input` and `output` (`in` is a word of Lean). -/

namespace Sys2Proof

/-- The instructions of the IMS T9000 (opcode_table.json, 223 rows). -/
inductive Instr where
  -- primary instructions and prefixing components (30_encoding.md R133)
  | j (n : Word)
  | ldlp (n : Word)
  | pfix (d : BitVec 4)
  | ldnl (n : Word)
  | ldc (n : Word)
  | ldnlp (n : Word)
  | nfix (d : BitVec 4)
  | ldl (n : Word)
  | adc (n : Word)
  | call (n : Word)
  | cj (n : Word)
  | ajw (n : Word)
  | eqc (n : Word)
  | stl (n : Word)
  | stnl (n : Word)
  | opr (code : Word)
  -- secondary instructions of 47_vcp_config.md
  | ldprodid | fdca | ica | fdcl | icl | readhdr | writehdr | initvlcb | setchmode | sethdr | swapbfr
  | ldmemstartval | insphdr | readbfr | ldconf | stconf | ldchstatus | lddevid
  -- secondary instructions of 41_control_blockmove.md
  | nop | devmove | stmove2dinit | gcall | ret | lend | gajw | move | move2dinit | move2dall
  | move2dnonzero | move2dzero | devlb | devsb | devls | devss | devlw | devsw
  -- secondary instructions of 43_channels_alt.md
  | ldresptr | stresptr | erdsq | irdsq | mkrc | unmkrc | grant | enbg | disg | vin | vout | stopch
  | input | output | outbyte | outword | resetch | dist | disc | diss | alt | altwt | altend | enbt
  | enbc | enbs | talt | taltwt | ldcnt | chantype
  -- secondary instructions of 44_protection_trap.md
  | restart | causeerror | syscall | selth | goprot | tret | ldflags | stflags | ldth
  -- secondary instructions of 42_process_sched.md
  | swapqueue | swaptimer | insertqueue | timeslice | signal | wait | ldshadow | stshadow | endp
  | startp | stopp | ldpri | ldtimer | testpranal | tin | runp | sttimer | settimeslice | intdis
  | intenb
  -- secondary instructions of 46_floating_point_ops.md
  | fpldall | fpstall | fpldnldbi | fpstnldb | fpldnlsni | fpadd | fpstnlsn | fpsub | fpldnldb | fpmul
  | fpdiv | fprange | fpldnlsn | fpnan | fpordered | fpnotfinite | fpgt | fpeq | fpi32tor32 | fpge
  | fpi32tor64 | fpb32tor64 | fplg | fprtoi32 | fpstnli32 | fpldzerosn | fpldzerodb | fpint | fpdup
  | fprev | fpldnladddb | fpldnlmuldb | fpldnladdsn | fpldnlmulsn | fprem | fprn | fpdivby2 | fpmulby2
  | fpsqrt | fprp | fprm | fprz | fpr32tor64 | fpr64tor32 | fpexpdec32 | fpexpinc32 | fpabs | fpadddbsn
  | fpchki32 | fpchki64
  -- secondary instructions of 40_integer.md
  | rev | lb | bsub | diff | add | prod | gt | wsub | sub | csub0 | ladd | norm | ldiv | ldpi | xdble
  | rem | div | lmul | not | xor | bcnt | lshr | lshl | lsum | lsub | xword | sb | wcnt | shr | shl
  | mint | and | or | csngl | ccnt1 | ldiff | sum | mul | cword | dup | gtu | fmul | crcword | crcbyte
  | bitcnt | bitrevword | bitrevnbits | pop | wsubdb | xbword | lbx | cb | cbu | ssub | cir | ss | ls
  | ciru | xsword | lsx | cs | csu
  deriving DecidableEq, Repr

end Sys2Proof
end

