-- ==== Sys2Proof/Decode.lean ====
section
/-! DEFINITION. Decode: from code bytes to an instruction, and the encoder written from the same rules
(30_encoding.md R130 to R141, opcode_table.json). -/

namespace Sys2Proof

/-- A negative operation code as a word (R135 (d)). -/
abbrev neg (k : Nat) : Word := BitVec.ofNat 32 (2 ^ 32 - k)

/-- Operation codes, part 1. -/
def opTable1 : List (Word × Instr) :=
  [(neg 0x84, .ldprodid), (neg 0x40, .nop), (neg 0x30, .fdca), (neg 0x2F, .ica), (neg 0x2E, .fdcl),
   (neg 0x2D, .icl), (neg 0x2C, .devmove), (neg 0x28, .ldresptr), (neg 0x27, .stresptr),
   (neg 0x26, .erdsq), (neg 0x25, .irdsq), (neg 0x24, .mkrc), (neg 0x23, .unmkrc),
   (neg 0x22, .restart), (neg 0x21, .causeerror), (neg 0x20, .stmove2dinit), (neg 0x1F, .grant),
   (neg 0x1E, .enbg), (neg 0x1D, .disg), (neg 0x1C, .readhdr), (neg 0x1B, .writehdr),
   (neg 0x1A, .initvlcb), (neg 0x19, .setchmode), (neg 0x18, .sethdr), (neg 0x17, .swapbfr),
   (neg 0x14, .vin), (neg 0x13, .vout), (neg 0x12, .stopch), (neg 0x10, .swapqueue),
   (neg 0xF, .swaptimer), (neg 0xE, .insertqueue), (neg 0xD, .timeslice), (neg 0xC, .signal),
   (neg 0xB, .wait), (neg 0x8, .syscall), (neg 0x7, .selth)]

/-- Operation codes, part 2. -/
def opTable2 : List (Word × Instr) :=
  [(neg 0x6, .goprot), (neg 0x5, .tret), (neg 0x4, .ldshadow), (neg 0x3, .stshadow),
   (neg 0x2, .fpldall), (neg 0x1, .fpstall), (0x0, .rev), (0x1, .lb), (0x2, .bsub), (0x3, .endp),
   (0x4, .diff), (0x5, .add), (0x6, .gcall), (0x7, .input), (0x8, .prod), (0x9, .gt), (0xA, .wsub),
   (0xB, .output), (0xC, .sub), (0xD, .startp), (0xE, .outbyte), (0xF, .outword), (0x12, .resetch),
   (0x13, .csub0), (0x15, .stopp), (0x16, .ladd), (0x19, .norm), (0x1A, .ldiv), (0x1B, .ldpi),
   (0x1D, .xdble), (0x1E, .ldpri), (0x1F, .rem), (0x20, .ret), (0x21, .lend), (0x22, .ldtimer),
   (0x2A, .testpranal)]

/-- Operation codes, part 3. -/
def opTable3 : List (Word × Instr) :=
  [(0x2B, .tin), (0x2C, .div), (0x2E, .dist), (0x2F, .disc), (0x30, .diss), (0x31, .lmul),
   (0x32, .not), (0x33, .xor), (0x34, .bcnt), (0x35, .lshr), (0x36, .lshl), (0x37, .lsum),
   (0x38, .lsub), (0x39, .runp), (0x3A, .xword), (0x3B, .sb), (0x3C, .gajw), (0x3F, .wcnt),
   (0x40, .shr), (0x41, .shl), (0x42, .mint), (0x43, .alt), (0x44, .altwt), (0x45, .altend),
   (0x46, .and), (0x47, .enbt), (0x48, .enbc), (0x49, .enbs), (0x4A, .move), (0x4B, .or),
   (0x4C, .csngl), (0x4D, .ccnt1), (0x4E, .talt), (0x4F, .ldiff), (0x51, .taltwt), (0x52, .sum)]

/-- Operation codes, part 4. -/
def opTable4 : List (Word × Instr) :=
  [(0x53, .mul), (0x54, .sttimer), (0x56, .cword), (0x5A, .dup), (0x5B, .move2dinit),
   (0x5C, .move2dall), (0x5D, .move2dnonzero), (0x5E, .move2dzero), (0x5F, .gtu), (0x72, .fmul),
   (0x74, .crcword), (0x75, .crcbyte), (0x76, .bitcnt), (0x77, .bitrevword), (0x78, .bitrevnbits),
   (0x79, .pop), (0x7E, .ldmemstartval), (0x81, .wsubdb), (0x82, .fpldnldbi), (0x84, .fpstnldb),
   (0x86, .fpldnlsni), (0x87, .fpadd), (0x88, .fpstnlsn), (0x89, .fpsub), (0x8A, .fpldnldb),
   (0x8B, .fpmul), (0x8C, .fpdiv), (0x8D, .fprange), (0x8E, .fpldnlsn), (0x91, .fpnan),
   (0x92, .fpordered), (0x93, .fpnotfinite), (0x94, .fpgt), (0x95, .fpeq), (0x96, .fpi32tor32),
   (0x97, .fpge)]

/-- Operation codes, part 5. -/
def opTable5 : List (Word × Instr) :=
  [(0x98, .fpi32tor64), (0x9A, .fpb32tor64), (0x9B, .fplg), (0x9D, .fprtoi32), (0x9E, .fpstnli32),
   (0x9F, .fpldzerosn), (0xA0, .fpldzerodb), (0xA1, .fpint), (0xA3, .fpdup), (0xA4, .fprev),
   (0xA6, .fpldnladddb), (0xA8, .fpldnlmuldb), (0xAA, .fpldnladdsn), (0xAC, .fpldnlmulsn),
   (0xB0, .settimeslice), (0xB6, .ldflags), (0xB7, .stflags), (0xB8, .xbword), (0xB9, .lbx),
   (0xBA, .cb), (0xBB, .cbu), (0xBC, .insphdr), (0xBD, .readbfr), (0xBE, .ldconf), (0xBF, .stconf),
   (0xC0, .ldcnt), (0xC1, .ssub), (0xC2, .ldth), (0xC3, .ldchstatus), (0xC4, .intdis),
   (0xC5, .intenb), (0xC7, .cir), (0xC8, .ss), (0xC9, .chantype), (0xCA, .ls), (0xCC, .ciru)]

/-- Operation codes, part 6. -/
def opTable6 : List (Word × Instr) :=
  [(0xCF, .fprem), (0xD0, .fprn), (0xD1, .fpdivby2), (0xD2, .fpmulby2), (0xD3, .fpsqrt),
   (0xD4, .fprp), (0xD5, .fprm), (0xD6, .fprz), (0xD7, .fpr32tor64), (0xD8, .fpr64tor32),
   (0xD9, .fpexpdec32), (0xDA, .fpexpinc32), (0xDB, .fpabs), (0xDD, .fpadddbsn), (0xDE, .fpchki32),
   (0xDF, .fpchki64), (0xF0, .devlb), (0xF1, .devsb), (0xF2, .devls), (0xF3, .devss),
   (0xF4, .devlw), (0xF5, .devsw), (0xF8, .xsword), (0xF9, .lsx), (0xFA, .cs), (0xFB, .csu),
   (0x17C, .lddevid)]

/-- The assigned operation codes (207 of them). -/
def opTable : List (Word × Instr) :=
  opTable1 ++ opTable2 ++ opTable3 ++ opTable4 ++ opTable5 ++ opTable6

/-- The secondary instruction with an operation code, if the code is assigned. -/
def opInstr? (code : Word) : Option Instr := opTable.lookup code

/-- Why a byte sequence is not an instruction. -/
inductive DecodeError where
  /-- There is no byte at all. -/
  | noBytes
  /-- The bytes end inside a prefix sequence (R134). -/
  | unfinished
  deriving DecidableEq, Repr

/-- The function code of a component (R130): its high four bits. -/
def componentFn (b : Byte) : Nat := (b >>> 4).toNat

/-- The data of a component (R130): its low four bits. -/
def componentData (b : Byte) : BitVec 4 := b.truncate 4

/-- A prefixing component: function 2 (pfix) or 6 (nfix), R133. -/
def isPrefixing (b : Byte) : Bool := componentFn b == 2 || componentFn b == 6

/-- `Oreg OR d` of R132. -/
def loadData (oreg : Word) (d : BitVec 4) : Word := oreg ||| d.setWidth 32

/-- Oreg after `pfix d` (R132). -/
def afterPfix (oreg : Word) (d : BitVec 4) : Word := loadData oreg d <<< 4

/-- Oreg after `nfix d` (R132). -/
def afterNfix (oreg : Word) (d : BitVec 4) : Word := (~~~ loadData oreg d) <<< 4

/-- The secondary instruction with an operation code, or `opr` itself for an unassigned one (R135, R137). -/
def secondary (code : Word) : Instr := (opInstr? code).getD (.opr code)

/-- The instruction a final component stands for, `n` being the whole Oreg (R132, R133). -/
def finalInstr (fn : Nat) (n : Word) : Instr :=
  match fn with
  | 0 => .j n
  | 1 => .ldlp n
  | 3 => .ldnl n
  | 4 => .ldc n
  | 5 => .ldnlp n
  | 7 => .ldl n
  | 8 => .adc n
  | 9 => .call n
  | 10 => .cj n
  | 11 => .ajw n
  | 12 => .eqc n
  | 13 => .stl n
  | 14 => .stnl n
  | _ => secondary n

/-- R132 applied to bytes, Oreg being the value accumulated so far. -/
def decodeFrom (oreg : Word) : List Byte → Except DecodeError (Instr × List Byte)
  | [] => .error .unfinished
  | b :: rest =>
    if componentFn b = 2 then decodeFrom (afterPfix oreg (componentData b)) rest
    else if componentFn b = 6 then decodeFrom (afterNfix oreg (componentData b)) rest
    else .ok (finalInstr (componentFn b) (loadData oreg (componentData b)), rest)

/-- A prefixing component taken alone: what a byte sequence that ends inside a prefix sequence begins with. -/
def loneComponent (b : Byte) : Instr :=
  if componentFn b = 2 then .pfix (componentData b) else .nfix (componentData b)

/-- Decoding with Oreg given: the whole instruction where the bytes hold one, else the first prefixing
component alone. -/
def decodeWith (oreg : Word) (bs : List Byte) : Except DecodeError (Instr × List Byte) :=
  match decodeFrom oreg bs with
  | .ok r => .ok r
  | .error _ =>
    match bs with
    | [] => .error .noBytes
    | b :: rest => .ok (loneComponent b, rest)

/-- The instruction at the head of a byte sequence in increasing address order, and the bytes after it. -/
def decode (bs : List Byte) : Except DecodeError (Instr × List Byte) := decodeWith 0 bs

/-! ## The encoder (R141) -/

/-- One component. -/
def component (fn : Nat) (d : Nat) : Byte := BitVec.ofNat 8 (16 * fn + d % 16)

/-- R141 for a non-negative value below 16^(fuel+1). -/
def encodeNat : Nat → Nat → Nat → List Byte
  | 0, fn, e => [component fn e]
  | fuel + 1, fn, e => if e < 16 then [component fn e] else encodeNat fuel 2 (e / 16) ++ [component fn e]

/-- R141: the shortest sequence for function `fn` and value `e`. -/
def encodeFn (fn : Nat) (e : Word) : List Byte :=
  if e.msb then encodeNat 6 6 ((~~~ e).toNat / 16) ++ [component fn e.toNat] else encodeNat 7 fn e.toNat

/-- The bytes of an instruction, in increasing address order. -/
def encode (i : Instr) : List Byte :=
  match i with
  | .j n => encodeFn 0 n
  | .ldlp n => encodeFn 1 n
  | .pfix d => [component 2 d.toNat]
  | .ldnl n => encodeFn 3 n
  | .ldc n => encodeFn 4 n
  | .ldnlp n => encodeFn 5 n
  | .nfix d => [component 6 d.toNat]
  | .ldl n => encodeFn 7 n
  | .adc n => encodeFn 8 n
  | .call n => encodeFn 9 n
  | .cj n => encodeFn 10 n
  | .ajw n => encodeFn 11 n
  | .eqc n => encodeFn 12 n
  | .stl n => encodeFn 13 n
  | .stnl n => encodeFn 14 n
  | .opr code => encodeFn 15 code
  | .ldprodid => encodeFn 15 (neg 0x84)
  | .nop => encodeFn 15 (neg 0x40)
  | .fdca => encodeFn 15 (neg 0x30)
  | .ica => encodeFn 15 (neg 0x2F)
  | .fdcl => encodeFn 15 (neg 0x2E)
  | .icl => encodeFn 15 (neg 0x2D)
  | .devmove => encodeFn 15 (neg 0x2C)
  | .ldresptr => encodeFn 15 (neg 0x28)
  | .stresptr => encodeFn 15 (neg 0x27)
  | .erdsq => encodeFn 15 (neg 0x26)
  | .irdsq => encodeFn 15 (neg 0x25)
  | .mkrc => encodeFn 15 (neg 0x24)
  | .unmkrc => encodeFn 15 (neg 0x23)
  | .restart => encodeFn 15 (neg 0x22)
  | .causeerror => encodeFn 15 (neg 0x21)
  | .stmove2dinit => encodeFn 15 (neg 0x20)
  | .grant => encodeFn 15 (neg 0x1F)
  | .enbg => encodeFn 15 (neg 0x1E)
  | .disg => encodeFn 15 (neg 0x1D)
  | .readhdr => encodeFn 15 (neg 0x1C)
  | .writehdr => encodeFn 15 (neg 0x1B)
  | .initvlcb => encodeFn 15 (neg 0x1A)
  | .setchmode => encodeFn 15 (neg 0x19)
  | .sethdr => encodeFn 15 (neg 0x18)
  | .swapbfr => encodeFn 15 (neg 0x17)
  | .vin => encodeFn 15 (neg 0x14)
  | .vout => encodeFn 15 (neg 0x13)
  | .stopch => encodeFn 15 (neg 0x12)
  | .swapqueue => encodeFn 15 (neg 0x10)
  | .swaptimer => encodeFn 15 (neg 0xF)
  | .insertqueue => encodeFn 15 (neg 0xE)
  | .timeslice => encodeFn 15 (neg 0xD)
  | .signal => encodeFn 15 (neg 0xC)
  | .wait => encodeFn 15 (neg 0xB)
  | .syscall => encodeFn 15 (neg 0x8)
  | .selth => encodeFn 15 (neg 0x7)
  | .goprot => encodeFn 15 (neg 0x6)
  | .tret => encodeFn 15 (neg 0x5)
  | .ldshadow => encodeFn 15 (neg 0x4)
  | .stshadow => encodeFn 15 (neg 0x3)
  | .fpldall => encodeFn 15 (neg 0x2)
  | .fpstall => encodeFn 15 (neg 0x1)
  | .rev => encodeFn 15 (0x0)
  | .lb => encodeFn 15 (0x1)
  | .bsub => encodeFn 15 (0x2)
  | .endp => encodeFn 15 (0x3)
  | .diff => encodeFn 15 (0x4)
  | .add => encodeFn 15 (0x5)
  | .gcall => encodeFn 15 (0x6)
  | .input => encodeFn 15 (0x7)
  | .prod => encodeFn 15 (0x8)
  | .gt => encodeFn 15 (0x9)
  | .wsub => encodeFn 15 (0xA)
  | .output => encodeFn 15 (0xB)
  | .sub => encodeFn 15 (0xC)
  | .startp => encodeFn 15 (0xD)
  | .outbyte => encodeFn 15 (0xE)
  | .outword => encodeFn 15 (0xF)
  | .resetch => encodeFn 15 (0x12)
  | .csub0 => encodeFn 15 (0x13)
  | .stopp => encodeFn 15 (0x15)
  | .ladd => encodeFn 15 (0x16)
  | .norm => encodeFn 15 (0x19)
  | .ldiv => encodeFn 15 (0x1A)
  | .ldpi => encodeFn 15 (0x1B)
  | .xdble => encodeFn 15 (0x1D)
  | .ldpri => encodeFn 15 (0x1E)
  | .rem => encodeFn 15 (0x1F)
  | .ret => encodeFn 15 (0x20)
  | .lend => encodeFn 15 (0x21)
  | .ldtimer => encodeFn 15 (0x22)
  | .testpranal => encodeFn 15 (0x2A)
  | .tin => encodeFn 15 (0x2B)
  | .div => encodeFn 15 (0x2C)
  | .dist => encodeFn 15 (0x2E)
  | .disc => encodeFn 15 (0x2F)
  | .diss => encodeFn 15 (0x30)
  | .lmul => encodeFn 15 (0x31)
  | .not => encodeFn 15 (0x32)
  | .xor => encodeFn 15 (0x33)
  | .bcnt => encodeFn 15 (0x34)
  | .lshr => encodeFn 15 (0x35)
  | .lshl => encodeFn 15 (0x36)
  | .lsum => encodeFn 15 (0x37)
  | .lsub => encodeFn 15 (0x38)
  | .runp => encodeFn 15 (0x39)
  | .xword => encodeFn 15 (0x3A)
  | .sb => encodeFn 15 (0x3B)
  | .gajw => encodeFn 15 (0x3C)
  | .wcnt => encodeFn 15 (0x3F)
  | .shr => encodeFn 15 (0x40)
  | .shl => encodeFn 15 (0x41)
  | .mint => encodeFn 15 (0x42)
  | .alt => encodeFn 15 (0x43)
  | .altwt => encodeFn 15 (0x44)
  | .altend => encodeFn 15 (0x45)
  | .and => encodeFn 15 (0x46)
  | .enbt => encodeFn 15 (0x47)
  | .enbc => encodeFn 15 (0x48)
  | .enbs => encodeFn 15 (0x49)
  | .move => encodeFn 15 (0x4A)
  | .or => encodeFn 15 (0x4B)
  | .csngl => encodeFn 15 (0x4C)
  | .ccnt1 => encodeFn 15 (0x4D)
  | .talt => encodeFn 15 (0x4E)
  | .ldiff => encodeFn 15 (0x4F)
  | .taltwt => encodeFn 15 (0x51)
  | .sum => encodeFn 15 (0x52)
  | .mul => encodeFn 15 (0x53)
  | .sttimer => encodeFn 15 (0x54)
  | .cword => encodeFn 15 (0x56)
  | .dup => encodeFn 15 (0x5A)
  | .move2dinit => encodeFn 15 (0x5B)
  | .move2dall => encodeFn 15 (0x5C)
  | .move2dnonzero => encodeFn 15 (0x5D)
  | .move2dzero => encodeFn 15 (0x5E)
  | .gtu => encodeFn 15 (0x5F)
  | .fmul => encodeFn 15 (0x72)
  | .crcword => encodeFn 15 (0x74)
  | .crcbyte => encodeFn 15 (0x75)
  | .bitcnt => encodeFn 15 (0x76)
  | .bitrevword => encodeFn 15 (0x77)
  | .bitrevnbits => encodeFn 15 (0x78)
  | .pop => encodeFn 15 (0x79)
  | .ldmemstartval => encodeFn 15 (0x7E)
  | .wsubdb => encodeFn 15 (0x81)
  | .fpldnldbi => encodeFn 15 (0x82)
  | .fpstnldb => encodeFn 15 (0x84)
  | .fpldnlsni => encodeFn 15 (0x86)
  | .fpadd => encodeFn 15 (0x87)
  | .fpstnlsn => encodeFn 15 (0x88)
  | .fpsub => encodeFn 15 (0x89)
  | .fpldnldb => encodeFn 15 (0x8A)
  | .fpmul => encodeFn 15 (0x8B)
  | .fpdiv => encodeFn 15 (0x8C)
  | .fprange => encodeFn 15 (0x8D)
  | .fpldnlsn => encodeFn 15 (0x8E)
  | .fpnan => encodeFn 15 (0x91)
  | .fpordered => encodeFn 15 (0x92)
  | .fpnotfinite => encodeFn 15 (0x93)
  | .fpgt => encodeFn 15 (0x94)
  | .fpeq => encodeFn 15 (0x95)
  | .fpi32tor32 => encodeFn 15 (0x96)
  | .fpge => encodeFn 15 (0x97)
  | .fpi32tor64 => encodeFn 15 (0x98)
  | .fpb32tor64 => encodeFn 15 (0x9A)
  | .fplg => encodeFn 15 (0x9B)
  | .fprtoi32 => encodeFn 15 (0x9D)
  | .fpstnli32 => encodeFn 15 (0x9E)
  | .fpldzerosn => encodeFn 15 (0x9F)
  | .fpldzerodb => encodeFn 15 (0xA0)
  | .fpint => encodeFn 15 (0xA1)
  | .fpdup => encodeFn 15 (0xA3)
  | .fprev => encodeFn 15 (0xA4)
  | .fpldnladddb => encodeFn 15 (0xA6)
  | .fpldnlmuldb => encodeFn 15 (0xA8)
  | .fpldnladdsn => encodeFn 15 (0xAA)
  | .fpldnlmulsn => encodeFn 15 (0xAC)
  | .settimeslice => encodeFn 15 (0xB0)
  | .ldflags => encodeFn 15 (0xB6)
  | .stflags => encodeFn 15 (0xB7)
  | .xbword => encodeFn 15 (0xB8)
  | .lbx => encodeFn 15 (0xB9)
  | .cb => encodeFn 15 (0xBA)
  | .cbu => encodeFn 15 (0xBB)
  | .insphdr => encodeFn 15 (0xBC)
  | .readbfr => encodeFn 15 (0xBD)
  | .ldconf => encodeFn 15 (0xBE)
  | .stconf => encodeFn 15 (0xBF)
  | .ldcnt => encodeFn 15 (0xC0)
  | .ssub => encodeFn 15 (0xC1)
  | .ldth => encodeFn 15 (0xC2)
  | .ldchstatus => encodeFn 15 (0xC3)
  | .intdis => encodeFn 15 (0xC4)
  | .intenb => encodeFn 15 (0xC5)
  | .cir => encodeFn 15 (0xC7)
  | .ss => encodeFn 15 (0xC8)
  | .chantype => encodeFn 15 (0xC9)
  | .ls => encodeFn 15 (0xCA)
  | .ciru => encodeFn 15 (0xCC)
  | .fprem => encodeFn 15 (0xCF)
  | .fprn => encodeFn 15 (0xD0)
  | .fpdivby2 => encodeFn 15 (0xD1)
  | .fpmulby2 => encodeFn 15 (0xD2)
  | .fpsqrt => encodeFn 15 (0xD3)
  | .fprp => encodeFn 15 (0xD4)
  | .fprm => encodeFn 15 (0xD5)
  | .fprz => encodeFn 15 (0xD6)
  | .fpr32tor64 => encodeFn 15 (0xD7)
  | .fpr64tor32 => encodeFn 15 (0xD8)
  | .fpexpdec32 => encodeFn 15 (0xD9)
  | .fpexpinc32 => encodeFn 15 (0xDA)
  | .fpabs => encodeFn 15 (0xDB)
  | .fpadddbsn => encodeFn 15 (0xDD)
  | .fpchki32 => encodeFn 15 (0xDE)
  | .fpchki64 => encodeFn 15 (0xDF)
  | .devlb => encodeFn 15 (0xF0)
  | .devsb => encodeFn 15 (0xF1)
  | .devls => encodeFn 15 (0xF2)
  | .devss => encodeFn 15 (0xF3)
  | .devlw => encodeFn 15 (0xF4)
  | .devsw => encodeFn 15 (0xF5)
  | .xsword => encodeFn 15 (0xF8)
  | .lsx => encodeFn 15 (0xF9)
  | .cs => encodeFn 15 (0xFA)
  | .csu => encodeFn 15 (0xFB)
  | .lddevid => encodeFn 15 (0x17C)

/-! ## The host's words -/

/-- The bytes of a word of `k` bytes, the table's first byte being the most significant. -/
def bytesBE (k w : Nat) : List Byte := (List.range k).map fun j => BitVec.ofNat 8 (w / 256 ^ (k - 1 - j))

/-- The bytes of a word of `k` bytes, the first byte being the least significant. -/
def bytesLE (k w : Nat) : List Byte := (List.range k).map fun j => BitVec.ofNat 8 (w / 256 ^ j)

/-- A byte sequence is one whole instruction, or one prefixing component alone: every byte but the last is
prefixing, and the last is not unless it is the only one. -/
def oneInstruction : List Byte → Bool
  | [] => false
  | [_] => true
  | b :: bs => isPrefixing b && (bs.dropLast.all isPrefixing) && !((bs.getLast?.map isPrefixing).getD true)

/-- The code bytes of a word of the opcode table. The table prints a row's bytes with the first byte in the
most significant place; the same word with the first byte in the least significant place is accepted too,
and no word reads as one instruction both ways (log 3, DEDUCED). -/
def tableBytes (nbits w : Nat) : List Byte :=
  let be := bytesBE (nbits / 8) w
  if oneInstruction be then be else bytesLE (nbits / 8) w

/-- The instruction of a word of the opcode table. -/
def decodeTableWord (nbits w : Nat) : Option Instr :=
  match decode (tableBytes nbits w) with
  | .ok (i, _) => some i
  | .error _ => none

end Sys2Proof
end

