-- ==== Sys2Proof/Machine/Components.lean ====
section
/-! DEFINITION. Components: the meanings of a prefixing component taken alone, and of `opr` with an unassigned
operation code (30_encoding.md R132, R134, R137). -/

namespace Sys2Proof.Machine

/-- `pfix d` alone (R132): a step of a prefix sequence too long for one fetch (log 4, DESIGN CHOICE). Nothing is due between
the components of an instruction (R139), so the step ends without the end-of-instruction checks. -/
def execPfix (d : BitVec 4) (s : State) : Out := .next { s with oreg := afterPfix s.oreg d, inChain := true }

/-- `nfix d` alone (R132). -/
def execNfix (d : BitVec 4) (s : State) : Out := .next { s with oreg := afterNfix s.oreg d, inChain := true }

/-- `opr` with an unassigned operation code signals IllegalInstruction, a restartable error (R137,
60_exceptions.md R706). An assigned code is its own constructor of the syntax, so that term is ill formed. -/
def execOpr (code : Word) (s : State) : Out :=
  if (opInstr? code).isNone then s.restartTrap etIllegalInstruction else .refused .illFormed

end Sys2Proof.Machine
end

