-- ==== Sys2Proof/Machine/ConfInstr.lean ====
section
/-! DEFINITION. ConfInstr: the meanings of the configuration instructions (47_vcp_config.md R670 to R675) and of
the cache instructions (R680 to R683). `s` is the state with IptrReg at NextInst and EptrReg at the
instruction. -/

namespace Sys2Proof.Machine

/-! ## Configuration (R670 to R675) -/

/-- `ldconf` (R670). -/
def execLdconf (s : State) : Out :=
  s.privileged
    (match s.confRead s.r.areg with
     | some (v, m) => s.finish { s.setA (confValue v m (s.drawn 0)) with draws := s.draws + 1 }
     | none => s.integerError)

/-- `stconf` (R671, R672). -/
def execStconf (s : State) : Out :=
  s.privileged
    (s.check (!s.confLocked s.r.areg)
      (match s.confWrite s.r.areg s.r.breg with
       | .ok t => s.finish (t.oneResult s.r.creg)
       | .invalid => s.integerError
       | .stop f => .fault f))

/-- `ldmemstartval` (R673). -/
def execLdmemstartval (s : State) : Out := s.privileged (s.finish (s.push (s.conf.memStart &&& 0xFFFFFFFC#32)))

/-- `lddevid` (R674). -/
def execLddevid (s : State) : Out := s.finish (s.push Config.deviceId)

/-- `ldprodid` (R675). -/
def execLdprodid (s : State) : Out := s.finish (s.push Config.deviceId)

/-! ## The main cache (R680 to R683) -/

/-- The bytes of a cache line (BytesPerLine, R680). -/
abbrev bytesPerLine : Word := 16#32

/-- The address an address instruction of the cache names: in a P-process it must be writable (R680, R682). -/
def State.cacheAddr (s : State) (k : Word → Out) : Out :=
  match s.r.translate false .write s.r.areg with
  | .violation => s.errTrap etAccessViolation
  | .invalid => .fault .regionDescriptor
  | .ok p => k p

/-- `fdca` (R680). -/
def execFdca (s : State) : Out :=
  s.cacheAddr fun p => s.finish ((s.flushLines fun l => l.block == blockOf p).setA (s.r.areg + bytesPerLine))

/-- `ica` (R682). -/
def execIca (s : State) : Out :=
  s.cacheAddr fun p => s.finish ((s.invalidateLines fun l => l.block == blockOf p).setA (s.r.areg + bytesPerLine))

/-- A line number in range (R681). -/
def State.lineInRange (s : State) : Bool :=
  s.r.areg.ult 1024#32 && (s.cache.ramSize != 1#2 || !s.r.areg.ult 512#32)

/-- A line has the number in Areg and holds a block in the range of Breg and Creg (R681, D56). -/
def State.lineHolds (s : State) (l : CacheLine) : Bool :=
  l.number == some s.r.areg.toNat && s.r.breg.sle (blockWord l.block 0) && (blockWord l.block 0).sle s.r.creg

/-- `fdcl` (R681). -/
def execFdcl (s : State) : Out :=
  s.privileged
    (if s.lineInRange then s.finish ((s.flushLines s.lineHolds).setA (s.r.areg + 1#32)) else .fault .cacheLine)

/-- `icl` (R683). -/
def execIcl (s : State) : Out :=
  s.privileged
    (if s.lineInRange then s.finish ((s.invalidateLines s.lineHolds).setA (s.r.areg + 1#32)) else .fault .cacheLine)

end Sys2Proof.Machine
end

