-- ==== Sys2Proof/Machine/FpCore.lean ====
section
/-! DEFINITION. FpCore: the floating-point arithmetic: the two formats, their NaNs, rounding with its
exceptional conditions, and the operations on values (45_floating_point.md R510 to R520). Values are exact:
a sign, a natural number and a power of two. -/

namespace Sys2Proof.Machine

/-! ## The formats (R510); `d` is true for double -/

/-- The width of the fraction. -/
abbrev fracBits (d : Bool) : Nat := if d then 52 else 23

/-- The width of the exponent. -/
abbrev expBits (d : Bool) : Nat := if d then 11 else 8

/-- The exponent of the smallest normalised number, Emin of R520. -/
abbrev expMin (d : Bool) : Int := if d then -1022 else -126

/-- The weight of the last place of a denormalised number. -/
abbrev ulpMin (d : Bool) : Int := expMin d - fracBits d

/-- The magnitude bits of infinity. -/
abbrev infBits (d : Bool) : Nat := (2 ^ expBits d - 1) * 2 ^ fracBits d

/-- What a floating-point register holds: a NaN, signalling or quiet; an infinity; or a number
`(-1)^neg × m × 2^e`, zero where m is 0. -/
inductive FpVal where
  | nan (signalling : Bool)
  | inf (neg : Bool)
  | num (neg : Bool) (m : Nat) (e : Int)
  deriving DecidableEq, Repr

/-- The bits of an entry as a number: a single has 32. -/
def FpEntry.nat (x : FpEntry) : Nat := if x.dbl then x.bits.toNat else x.bits.toNat % 2 ^ 32

/-- The sign of an entry. -/
def FpEntry.neg (x : FpEntry) : Bool := x.nat.testBit (fracBits x.dbl + expBits x.dbl)

/-- The value of an entry (R510, R515). -/
def FpEntry.val (x : FpEntry) : FpVal :=
  let fb := fracBits x.dbl
  let ex := x.nat / 2 ^ fb % 2 ^ expBits x.dbl
  let fr := x.nat % 2 ^ fb
  if ex = 2 ^ expBits x.dbl - 1 then
    if fr = 0 then .inf x.neg else .nan (!fr.testBit (fb - 1))
  else if ex = 0 then .num x.neg fr (ulpMin x.dbl)
  else .num x.neg (2 ^ fb + fr) (ulpMin x.dbl + (ex - 1 : Nat))

/-- An entry of its sign and its magnitude bits. -/
def fpPack (d neg : Bool) (mag : Nat) : FpEntry :=
  ⟨d, BitVec.ofNat 64 ((if neg then 2 ^ (fracBits d + expBits d) else 0) + mag)⟩

/-- A zero. -/
abbrev fpZero (d neg : Bool) : FpEntry := fpPack d neg 0

/-- An infinity. -/
abbrev fpInf (d neg : Bool) : FpEntry := fpPack d neg (infBits d)

/-- `Q(x)` of R515. -/
def FpEntry.quiet (x : FpEntry) : FpEntry :=
  { x with bits := x.bits ||| (1#64 <<< (fracBits x.dbl - 1)) }

/-- The NaNs of R516 as singles. -/
abbrev divZeroByZeroNaN : Word := 0x7FC00000#32
abbrev divInfByInfNaN : Word := 0x7FE00000#32
abbrev zeroMulInfNaN : Word := 0x7FD00000#32
abbrev addOpInfsNaN : Word := 0x7FC80000#32
abbrev negSqrtNaN : Word := 0x7FC40000#32
abbrev r64ToR32NaN : Word := 0x7FC20000#32
abbrev remainderFromInfNaN : Word := 0x7FC04000#32
abbrev remainderByZeroNaN : Word := 0x7FC02000#32
abbrev rangeQuotErrorNaN : Word := 0x7FC01000#32

/-- The fraction of a single NaN widened: bits 22..0 become bits 51..29 (R516, R517). -/
def widenNaN (w : Word) : Dword := 0x7FF0000000000000#64 ||| ((w &&& 0x7FFFFF#32).setWidth 64 <<< 29)

/-- A NaN of R516 in a format. -/
def madeNaN (d : Bool) (w : Word) : FpEntry := if d then double (widenNaN w) else single w

/-! ## Signals -/

/-- A result with the signals it raises. -/
structure FpRes where
  e : FpEntry
  sg : FpSig
  deriving DecidableEq, Repr

/-- FPError alone. -/
def FpSig.error : FpSig := { FpSig.none with err := true }

/-- FPInvalidOp with FPError. -/
def FpSig.invalid : FpSig := { FpSig.none with err := true, inv := true }

/-- FPInvalidOp (with FPError) where a condition holds, else FPError. -/
def FpSig.nanOf (signalling : Bool) : FpSig := if signalling then .invalid else .error

/-- A NaN of either kind. -/
def FpVal.isNaN : FpVal → Bool
  | .nan _ => true
  | _ => false

/-- A signalling NaN. -/
def FpVal.isSignalling : FpVal → Bool
  | .nan g => g
  | _ => false

/-- A NaN or an infinity. -/
def FpVal.notFinite : FpVal → Bool
  | .num _ _ _ => false
  | _ => true

/-- Op-signals of one operand (46 conventions). -/
def opSignals1 (a : FpVal) : FpSig :=
  { FpSig.none with err := a.notFinite, inv := a.isSignalling }

/-- Op-signals of two operands. -/
def opSignals2 (a b : FpVal) : FpSig :=
  { FpSig.none with err := a.notFinite || b.notFinite, inv := a.isSignalling || b.isSignalling }

/-- The invalid operations that give one of the NaNs of R516. -/
def invalidNaN (d : Bool) (w : Word) : FpRes := ⟨madeNaN d w, .invalid⟩

/-! ## Rounding (R514, R519, R520) -/

/-- Whether a magnitude between two neighbours goes to the upper one: `q` the lower, `r` the remainder of
`2^k`. -/
def roundsUp (mode : BitVec 2) (neg : Bool) (q r k : Nat) : Bool :=
  if mode = 0#2 then false
  else if mode = 1#2 then decide (2 ^ k < 2 * r) || (decide (2 ^ k = 2 * r) && q % 2 == 1)
  else if mode = 2#2 then !neg && r != 0
  else neg && r != 0

/-- `m × 2^e` in units of `2^u`, rounded, and whether that is inexact. -/
def roundAt (mode : BitVec 2) (neg : Bool) (m : Nat) (e u : Int) : Nat × Bool :=
  if u ≤ e then (m * 2 ^ (e - u).toNat, false)
  else
    let k := (u - e).toNat
    let q := m / 2 ^ k
    let r := m % 2 ^ k
    (if roundsUp mode neg q r k then q + 1 else q, r != 0)

/-- The result of an overflow: the IEEE default of R519 (D53) (log 53, PRESUMED). -/
def overflowResult (d : Bool) (mode : BitVec 2) (neg : Bool) : FpEntry :=
  let toInf := mode = 1#2 || (mode = 2#2 && !neg) || (mode = 3#2 && neg)
  fpPack d neg (if toInf then infBits d else infBits d - 1)

/-- The exact number `(-1)^neg × m × 2^e` delivered in a format, with its signals: rounded once in the mode;
tininess after rounding; `te` is sb.FPUndTeBit (R520). -/
def fpRound (d : Bool) (mode : BitVec 2) (te neg : Bool) (m : Nat) (e : Int) : FpRes :=
  if m = 0 then ⟨fpZero d neg, .none⟩
  else
    let top := e + Nat.log2 m
    let u0 := top - fracBits d
    let free := roundAt mode neg m e u0
    let tiny := (if free.1 = 2 ^ (fracBits d + 1) then top + 1 else top) < expMin d
    let u := if u0 < ulpMin d then ulpMin d else u0
    let x := roundAt mode neg m e u
    let mag := (u - ulpMin d).toNat * 2 ^ fracBits d + x.1
    if infBits d ≤ mag then
      ⟨overflowResult d mode neg, { FpSig.none with err := true, ov := true, ix := true }⟩
    else ⟨fpPack d neg mag, { FpSig.none with un := tiny && (te || x.2), ix := x.2 }⟩

/-! ## Exact arithmetic -/

/-- A signed number in units of `2^u`, where `u` is at most its exponent. -/
def unitsOf (neg : Bool) (m : Nat) (e u : Int) : Int :=
  let n := Int.ofNat (m * 2 ^ (e - u).toNat)
  if neg then -n else n

/-- The exact sum of two numbers, rounded (R520 (d) for the sign of zero). -/
def addNum (d : Bool) (mode : BitVec 2) (te : Bool) (n1 : Bool) (m1 : Nat) (e1 : Int) (n2 : Bool) (m2 : Nat)
    (e2 : Int) : FpRes :=
  let u := min e1 e2
  let t := unitsOf n1 m1 e1 u + unitsOf n2 m2 e2 u
  if t = 0 then ⟨fpZero d (if n1 = n2 then n1 else mode = 3#2), .none⟩
  else fpRound d mode te (decide (t < 0)) t.natAbs u

/-- The bits of a quotient beyond any format, the last of them the 'or' of the rest. -/
def quotientBits (m n : Nat) (k : Nat) : Nat :=
  let x := m * 2 ^ k
  2 * (x / n) + (if x % n = 0 then 0 else 1)

/-- The exact quotient of two non-zero numbers, rounded. -/
def divNum (d : Bool) (mode : BitVec 2) (te neg : Bool) (m1 : Nat) (e1 : Int) (m2 : Nat) (e2 : Int) : FpRes :=
  let k := 64 + Nat.log2 m2
  fpRound d mode te neg (quotientBits m1 m2 k) (e1 - e2 - k - 1)

/-- The greatest `r` with `r × r ≤ n`, found bit by bit below bit `i`. -/
def rootBits (n : Nat) : Nat → Nat → Nat
  | 0, r => r
  | i + 1, r => if (r + 2 ^ i) * (r + 2 ^ i) ≤ n then rootBits n i (r + 2 ^ i) else rootBits n i r

/-- The exact square root of a positive number, rounded. -/
def sqrtNum (d : Bool) (mode : BitVec 2) (te : Bool) (m : Nat) (e : Int) : FpRes :=
  let m' := if e % 2 = 0 then m else 2 * m
  let e' := if e % 2 = 0 then e else e - 1
  let n := m' * 2 ^ 128
  let r := rootBits n 96 0
  fpRound d mode te false (2 * r + (if r * r = n then 0 else 1)) (e' / 2 - 65)

/-- The quotient of magnitudes to the nearest integer, ties to even. -/
def nearestQuotient (x y : Nat) : Nat :=
  let q := x / y
  let r := x % y
  if y < 2 * r || (y == 2 * r && q % 2 == 1) then q + 1 else q

/-- A dividend less `n` times a divisor, both magnitudes in units of `2^u`, with the dividend's sign (R520
`rem_ieee`; R518 for a multiple other than the quotient). -/
def lessMultiple (d : Bool) (mode : BitVec 2) (te neg : Bool) (x y n : Nat) (u : Int) : FpRes :=
  let r := Int.ofNat x - Int.ofNat (y * n)
  fpRound d mode te (if r < 0 then !neg else neg) r.natAbs u

/-! ## The dyadic operations (46_floating_point_ops.md R546 to R551) -/

/-- `nan2(A, B)` (R517). -/
def nan2 (a b : FpEntry) : FpEntry :=
  if a.val.isSignalling then a.quiet
  else if b.val.isSignalling then b.quiet
  else if a.val.isNaN then a
  else b

/-- B + A in the format `d`, `d` being that of the operands or, for `fpadddbsn`, single; NaNs excluded. -/
def fpSum (d : Bool) (mode : BitVec 2) (te : Bool) (b a : FpVal) : FpRes :=
  match b, a with
  | .inf n1, .inf n2 => if n1 = n2 then ⟨fpInf d n1, .error⟩ else invalidNaN d addOpInfsNaN
  | .inf n, _ => ⟨fpInf d n, .error⟩
  | _, .inf n => ⟨fpInf d n, .error⟩
  | .num n1 m1 e1, .num n2 m2 e2 => addNum d mode te n1 m1 e1 n2 m2 e2
  | _, _ => ⟨fpZero d false, .none⟩

/-- The value negated. -/
def FpVal.negate : FpVal → FpVal
  | .nan g => .nan g
  | .inf n => .inf (!n)
  | .num n m e => .num (!n) m e

/-- A dyadic operation with the NaN rule of R517 in front. -/
def fpDyadicOp (f : FpVal → FpVal → FpRes) (b a : FpEntry) : FpRes :=
  if a.val.isNaN || b.val.isNaN then ⟨nan2 a b, opSignals2 a.val b.val⟩ else f b.val a.val

/-- `fpadd` (R546). -/
def fpAdd (mode : BitVec 2) (te : Bool) (b a : FpEntry) : FpRes := fpDyadicOp (fpSum a.dbl mode te) b a

/-- `fpsub` (R547). -/
def fpSub (mode : BitVec 2) (te : Bool) (b a : FpEntry) : FpRes :=
  fpDyadicOp (fun y x => fpSum a.dbl mode te y x.negate) b a

/-- `fpmul` of values that are no NaN (R548). -/
def fpProduct (d : Bool) (mode : BitVec 2) (te : Bool) (b a : FpVal) : FpRes :=
  match b, a with
  | .inf n1, .inf n2 => ⟨fpInf d (n1 != n2), .error⟩
  | .inf n1, .num n2 m _ => if m = 0 then invalidNaN d zeroMulInfNaN else ⟨fpInf d (n1 != n2), .error⟩
  | .num n1 m _, .inf n2 => if m = 0 then invalidNaN d zeroMulInfNaN else ⟨fpInf d (n1 != n2), .error⟩
  | .num n1 m1 e1, .num n2 m2 e2 => fpRound d mode te (n1 != n2) (m1 * m2) (e1 + e2)
  | _, _ => ⟨fpZero d false, .none⟩

/-- `fpmul` (R548). -/
def fpMul (mode : BitVec 2) (te : Bool) (b a : FpEntry) : FpRes := fpDyadicOp (fpProduct a.dbl mode te) b a

/-- `fpdiv` of values that are no NaN (R549). -/
def fpQuotient (d : Bool) (mode : BitVec 2) (te : Bool) (b a : FpVal) : FpRes :=
  match b, a with
  | .inf _, .inf _ => invalidNaN d divInfByInfNaN
  | .inf n1, .num n2 _ _ => ⟨fpInf d (n1 != n2), .error⟩
  | .num n1 _ _, .inf n2 => ⟨fpZero d (n1 != n2), .error⟩
  | .num n1 m1 e1, .num n2 m2 e2 =>
    if m2 = 0 then
      if m1 = 0 then invalidNaN d divZeroByZeroNaN
      else ⟨fpInf d (n1 != n2), { FpSig.none with err := true, dz := true }⟩
    else if m1 = 0 then ⟨fpZero d (n1 != n2), .none⟩
    else divNum d mode te (n1 != n2) m1 e1 m2 e2
  | _, _ => ⟨fpZero d false, .none⟩

/-- `fpdiv` (R549). -/
def fpDiv (mode : BitVec 2) (te : Bool) (b a : FpEntry) : FpRes := fpDyadicOp (fpQuotient a.dbl mode te) b a

/-- The largest quotient `fprange` delivers (R551). -/
def maxQuotient (d : Bool) : Nat := if d then 2 ^ 53 - 1 else 2 ^ 24 - 1

/-- The result of a remainder: the remainder, the integer quotient where it is asked for, and what the dividend
may have become where the operation traps (R518). -/
structure FpRem where
  res : FpRes
  quotient : Option FpEntry
  partly : Option FpEntry
  deriving DecidableEq, Repr

/-- `fprem` (R550) and `fprange` (R551, `range` true) of B by A; `k` is the draw of R518, in a tie of an even multiple, which
keeps the parity that decides it (log 48, DEDUCED), and `z` the sign of a quotient of zero, which R551 does not give
(log 21, DESIGN CHOICE). -/
def fpRemainder (range : Bool) (mode : BitVec 2) (te : Bool) (k : Nat) (z : Bool) (b a : FpEntry) : FpRem :=
  let d := a.dbl
  let made (w : Word) : FpRem := ⟨invalidNaN d w, none, none⟩
  match b.val, a.val with
  | .num n1 m1 e1, .num n2 m2 e2 =>
    if m2 = 0 then made remainderByZeroNaN
    else
      let u := min e1 e2
      let x := m1 * 2 ^ (e1 - u).toNat
      let y := m2 * 2 ^ (e2 - u).toNat
      let n := nearestQuotient x y
      if range && decide (maxQuotient d < n) then made rangeQuotErrorNaN
      else
        let tie := 2 * x % (2 * y) = y
        let part := lessMultiple d mode te n1 x y (if tie then 2 * (k % (n / 2 + 1)) else k % (n + 1)) u
        ⟨lessMultiple d mode te n1 x y n u, some (if n = 0 then fpZero d z else (fpRound d 1#2 false (n1 != n2) n 0).e),
          if part.sg.ix then none else some part.e⟩
  | .num n1 _ _, .inf n2 => ⟨⟨b, .error⟩, some (fpZero d (n1 != n2)), none⟩
  | .inf _, .num _ _ _ => made remainderFromInfNaN
  | .inf _, .inf _ => made remainderFromInfNaN
  | x, y => ⟨⟨nan2 a b, opSignals2 y x⟩, none, none⟩

/-- What an interrupted `fprem` has left of the dividend B: B less the multiple of A and of 2^(j+1) next below it, which is
exact and keeps the quotient's parity (R550, 41_control_blockmove.md R290; log 29, DESIGN CHOICE); none where there is
nothing to divide. -/
def fpPartRemainder (j : Nat) (b a : FpEntry) : Option FpEntry :=
  match b.val, a.val with
  | .num n1 m1 e1, .num _ m2 e2 =>
    if m2 = 0 then none
    else
      let u := min e1 e2
      let x := m1 * 2 ^ (e1 - u).toNat
      let y := m2 * 2 ^ (e2 - u).toNat
      some (fpRound a.dbl 1#2 false n1 (x % (y * 2 ^ (Nat.min j 4096 + 1))) u).e
  | _, _ => none

/-! ## The monadic operations (R557 to R562, R571 to R580) -/

/-- A monadic operation with the rule of R517 in front: a NaN is quietened. -/
def fpMonadicOp (f : FpVal → FpRes) (a : FpEntry) : FpRes :=
  match a.val with
  | .nan g => ⟨if g then a.quiet else a, .nanOf g⟩
  | v => f v

/-- Multiplication by `2^k` (R557 to R560). -/
def fpScale (k : Int) (mode : BitVec 2) (te : Bool) (a : FpEntry) : FpRes :=
  fpMonadicOp (fun v => match v with
    | .inf n => ⟨fpInf a.dbl n, .error⟩
    | .num n m e => fpRound a.dbl mode te n m (e + k)
    | .nan _ => ⟨a, .none⟩) a

/-- `fpabs` (R561). -/
def fpAbs (a : FpEntry) : FpRes :=
  fpMonadicOp (fun v => ⟨fpPack a.dbl false (a.nat % 2 ^ (fracBits a.dbl + expBits a.dbl)), opSignals1 v⟩) a

/-- `fpsqrt` (R562). -/
def fpSqrt (mode : BitVec 2) (te : Bool) (a : FpEntry) : FpRes :=
  fpMonadicOp (fun v => match v with
    | .inf n => if n then invalidNaN a.dbl negSqrtNaN else ⟨a, .error⟩
    | .num n m e =>
      if m = 0 then ⟨a, .none⟩
      else if n then invalidNaN a.dbl negSqrtNaN
      else sqrtNum a.dbl mode te m e
    | .nan _ => ⟨a, .none⟩) a

/-- `fpint` (R573): a number to an integral value, its sign kept. -/
def fpIntegral (mode : BitVec 2) (a : FpEntry) : FpRes :=
  fpMonadicOp (fun v => match v with
    | .inf _ => ⟨a, .error⟩
    | .num n m e =>
      if 0 ≤ e then ⟨a, .none⟩
      else
        let x := roundAt mode n m e 0
        ⟨(fpRound a.dbl 1#2 false n x.1 0).e, { FpSig.none with ix := x.2 }⟩
    | .nan _ => ⟨a, .none⟩) a

/-- `fpr32tor64` (R571, R517). -/
def fpWiden (a : FpEntry) : FpRes :=
  match a.val with
  | .nan g => ⟨(double (widenNaN a.lo)).quiet, .nanOf g⟩
  | .inf n => ⟨fpInf true n, .error⟩
  | .num n m e => ⟨(fpRound true 1#2 false n m e).e, .none⟩

/-- `fpr64tor32` (R572). -/
def fpNarrow (mode : BitVec 2) (te : Bool) (a : FpEntry) : FpRes :=
  match a.val with
  | .nan g => ⟨single r64ToR32NaN, .nanOf g⟩
  | .inf n => ⟨fpInf false n, .error⟩
  | .num n m e => fpRound false mode te n m e

/-- `fpadddbsn` (R580): the exact sum rounded once to single. -/
def fpAddNarrow (mode : BitVec 2) (te : Bool) (b a : FpEntry) : FpRes :=
  if a.val.isNaN || b.val.isNaN then ⟨single r64ToR32NaN, opSignals2 a.val b.val⟩
  else fpSum false mode te b.val a.val

/-- An integer as a double: exact (R577, R579). -/
def fpOfInt (n : Int) : FpEntry := (fpRound true 1#2 false (decide (n < 0)) n.natAbs 0).e

/-! ## Integers and comparisons -/

/-- The greatest integer not above a number (R544). -/
def floorOf (neg : Bool) (m : Nat) (e : Int) : Int :=
  let n := if neg then -Int.ofNat m else Int.ofNat m
  if 0 ≤ e then n * 2 ^ e.toNat else n / 2 ^ (-e).toNat

/-- `int64` of R544, where it is defined. -/
def FpVal.toInt64 : FpVal → Option Dword
  | .num neg m e =>
    let n := floorOf neg m e
    if decide (-(2 ^ 63) ≤ n) && decide (n < 2 ^ 63) then some (BitVec.ofInt 64 n) else none
  | _ => none

/-- `−2^k <= A and A < 2^k` (R574, R575): its floor lies in the range exactly where a real number does. -/
def FpVal.inRange (k : Nat) : FpVal → Bool
  | .num neg m e => decide (-(2 ^ k) ≤ floorOf neg m e) && decide (floorOf neg m e < 2 ^ k)
  | _ => false

/-- The signals of a range check (R574). -/
def rangeSignals (k : Nat) (a : FpVal) : FpSig := if a.inRange k then .none else .invalid

/-- How two values compare (46 section 5): B with A; none where unordered. -/
def fpCompare (b a : FpVal) : Option Ordering :=
  match b, a with
  | .nan _, _ => none
  | _, .nan _ => none
  | .inf n1, .inf n2 => some (if n1 = n2 then .eq else if n1 then .lt else .gt)
  | .inf n, _ => some (if n then .lt else .gt)
  | _, .inf n => some (if n then .gt else .lt)
  | .num n1 m1 e1, .num n2 m2 e2 =>
    let u := min e1 e2
    some (compare (unitsOf n1 m1 e1 u) (unitsOf n2 m2 e2 u))

end Sys2Proof.Machine
end

