-- ==== Sys2Proof/Machine/Float.lean ====
section
/-! DEFINITION. Float: the meanings of the floating-point instructions (46_floating_point_ops.md). Every one but
the four setters and `fpldall` ends with RoundMode at nearest (45_floating_point.md R514). `s` is the state with
IptrReg at NextInst and EptrReg at the instruction. -/

namespace Sys2Proof.Machine

/-! ## Shapes -/

/-- sb.FPUndTeBit, on which underflow depends (R520). -/
abbrev State.undTe (s : State) : Bool := bitOf s.r.status sbFPUndTeBit

/-- The floating-point flags of StatusReg. -/
def fpFlagBits : Word := 0x00015504#32

/-- The end of an operation on mismatched types (R512, D52): any floating-point flag may be set (log 52, DEDUCED). -/
def State.mismatch (s0 s1 : State) : Out :=
  s0.finish ({ s1 with
    r := { s1.r with status := s1.r.status ||| (s1.drawn 0 &&& fpFlagBits) }, draws := s1.draws + 1 }.nearest)

/-- A state with one draw taken. -/
abbrev State.spend (s : State) : State := { s with draws := s.draws + 1 }

/-- A dyadic operation of A and B. -/
def State.fpBinary (s : State) (op : FpEntry → FpEntry → FpRes) : Out :=
  if s.r.fpA.dbl != s.r.fpB.dbl then s.mismatch (s.spend.fdyadic (freeEntry s.draws))
  else
    let x := op s.r.fpB s.r.fpA
    s.fpResult s x.sg (s.fdyadic x.e).nearest

/-- A monadic operation of A. -/
def State.fpUnary (s : State) (x : FpRes) : Out := s.fpResult s x.sg (s.setFpA x.e).nearest

/-- A comparison of B with A: `rel` of the relation, any NaN being an invalid operation where `anyNaN` (46
section 5). -/
def State.fpRelation (s : State) (anyNaN : Bool) (rel : Ordering → Bool) : Out :=
  if s.r.fpA.dbl != s.r.fpB.dbl then s.mismatch ((s.spend.push (s.drawn 0)).fpop2)
  else
    let a := s.r.fpA.val
    let b := s.r.fpB.val
    let sg := opSignals2 a b
    let v := match fpCompare b a with
      | some o => rel o
      | none => false
    s.fpResult s { sg with inv := sg.inv || (anyNaN && (a.isNaN || b.isNaN)) } ((s.push (boolWord v)).fpop2).nearest

/-- The signals of a remainder and the state a trap delivers. -/
def State.remTrap (s : State) (x : FpRem) : State :=
  match x.partly with
  | some e => if x.res.sg.un then { s with r := { s.r with fpB := e } }.spend else s
  | none => s

/-- Load a single from an aligned address and push it; the integer stack is left to the caller. -/
def State.loadSingle (s : State) (a : Word) (k : State → Out) : Out :=
  s.loadW false a fun t v => k (t.fpush (single v))

/-- Load a double from an aligned address and push it; its lower word is accessed first (45_floating_point.md R511; log 72,
DESIGN CHOICE). -/
def State.loadDouble (s : State) (a : Word) (k : State → Out) : Out :=
  s.loadW false a fun t lo => t.loadW false (a + 4#32) fun u hi => k (u.fpush (double (dwordOf hi lo)))

/-! ## Stack and rounding mode -/

/-- `fpdup` (R530). -/
def execFpdup (s : State) : Out := s.finish (s.fpush s.r.fpA).nearest

/-- `fprev` (R531). -/
def execFprev (s : State) : Out :=
  s.finish { s with r := { s.r with fpA := s.r.fpB, fpB := s.r.fpA } }.nearest

/-- `fprn` (R532). -/
def execFprn (s : State) : Out := s.finish (s.setRound 1#2)

/-- `fprz` (R533). -/
def execFprz (s : State) : Out := s.finish (s.setRound 0#2)

/-- `fprp` (R534). -/
def execFprp (s : State) : Out := s.finish (s.setRound 2#2)

/-- `fprm` (R535). -/
def execFprm (s : State) : Out := s.finish (s.setRound 3#2)

/-! ## Loads and stores -/

/-- `fpldnlsn` (R536). -/
def execFpldnlsn (s : State) : Out :=
  s.alignW s.r.areg fun a => s.loadSingle a fun t => s.finish t.pop1.nearest

/-- `fpldnldb` (R537). -/
def execFpldnldb (s : State) : Out :=
  s.alignW s.r.areg fun a => s.loadDouble a fun t => s.finish t.pop1.nearest

/-- `fpldnlsni` (R538). -/
def execFpldnlsni (s : State) : Out :=
  s.alignW s.r.areg fun a => s.loadSingle (atn a s.r.breg) fun t => s.finish t.pop2.nearest

/-- `fpldnldbi` (R539). -/
def execFpldnldbi (s : State) : Out :=
  s.alignW s.r.areg fun a => s.loadDouble (atn a (2#32 * s.r.breg)) fun t => s.finish t.pop2.nearest

/-- `fpldzerosn` (R540). -/
def execFpldzerosn (s : State) : Out := s.finish (s.fpush (single 0#32)).nearest

/-- `fpldzerodb` (R541). -/
def execFpldzerodb (s : State) : Out := s.finish (s.fpush (double 0#64)).nearest

/-- `fpstnlsn` (R542). -/
def execFpstnlsn (s : State) : Out :=
  s.alignW s.r.areg fun a =>
    if s.r.fpA.dbl then s.spend.storeW false a (s.drawn 0) fun t => s.mismatch t.fpop1.pop1
    else s.storeW false a s.r.fpA.lo fun t => s.finish t.fpop1.pop1.nearest

/-- `fpstnldb` (R543). -/
def execFpstnldb (s : State) : Out :=
  s.alignW s.r.areg fun a =>
    if s.r.fpA.dbl then
      s.storeWs a [s.r.fpA.lo, s.r.fpA.hiWord] fun t => s.finish t.fpop1.pop1.nearest
    else s.spend.spend.storeWs a [s.drawn 0, s.drawn 1] fun t => s.mismatch t.fpop1.pop1

/-- `fpstnli32` (R544). -/
def execFpstnli32 (s : State) : Out :=
  s.alignW s.r.areg fun a =>
    match s.r.fpA.val.toInt64 with
    | some n => s.storeW false a (n.setWidth 32) fun t => s.finish t.fpop1.pop1.nearest
    | none => s.spend.storeW false a (s.drawn 0) fun t => s.finish t.fpop1.pop1.nearest

/-- `fpstall` (R545): the status word is the one before this instruction's own reset of the mode. -/
def execFpstall (s : State) : Out :=
  s.alignW s.r.areg fun a =>
    s.storeAll (someWordsAt a s.r.fpWords) fun t =>
      let t := t.pop1
      s.finish { t with
        r := { t.r with fpA := freeEntry t.draws, fpB := freeEntry (t.draws + 1), fpC := freeEntry (t.draws + 2) }
        draws := t.draws + 3 }.nearest

/-- The words `fpldall` reads for entry `k`: none for a reserved type, one for a single, two for a double
(R581), the lower one first (log 72, DESIGN CHOICE). -/
def fpldallReads (st a : Word) (k : Nat) : List Word :=
  let p := a + BitVec.ofNat 32 (4 + 8 * k)
  if st.getLsbD (3 + 2 * k) then []
  else if st.getLsbD (2 + 2 * k) then [p, p + 4#32]
  else [p]

/-- `fpldall` (R581): the one instruction that can leave another mode than nearest without a setter. It reads the status
word, then the words of FPAreg, FPBreg and FPCreg in that order, which the sources do not give (log 72, DESIGN CHOICE). -/
def execFpldall (s : State) : Out :=
  s.alignW s.r.areg fun a => s.loadW false a fun t st =>
    if st &&& 0xFFFFFF00#32 ≠ 0#32 then .fault .fpStatusWord
    else
      let at' (n : Nat) : Word := s.peek (a + BitVec.ofNat 32 (4 * n))
      t.reads (fpldallReads st a 0 ++ fpldallReads st a 1 ++ fpldallReads st a 2) fun u =>
        let u := u.pop1
        s.finish { u with
          r := { u.r with
            round := st.setWidth 2
            fpA := fpSlot st 0 (at' 1) (at' 2) u.draws
            fpB := fpSlot st 1 (at' 3) (at' 4) (u.draws + 1)
            fpC := fpSlot st 2 (at' 5) (at' 6) (u.draws + 2) }
          draws := u.draws + 3 }

/-! ## Dyadic arithmetic -/

/-- `fpadd` (R546). -/
def execFpadd (s : State) : Out := s.fpBinary (fpAdd s.r.round s.undTe)

/-- `fpsub` (R547). -/
def execFpsub (s : State) : Out := s.fpBinary (fpSub s.r.round s.undTe)

/-- `fpmul` (R548). -/
def execFpmul (s : State) : Out := s.fpBinary (fpMul s.r.round s.undTe)

/-- `fpdiv` (R549). -/
def execFpdiv (s : State) : Out := s.fpBinary (fpDiv s.r.round s.undTe)

/-- The whole of `fprem`. -/
def State.remainder (s : State) : Out :=
  let x := fpRemainder false s.r.round s.undTe (Config.freeNat s.draws) false s.r.fpB s.r.fpA
  s.fpResult (s.remTrap x) x.res.sg (s.fdyadic x.res.e).nearest

/-- `fprem` (R550). An underflow trap may find FPBreg less by a multiple of FPAreg (R518). Interrupted, FPBreg is less by
a multiple of FPAreg, and the instruction goes on from there. -/
def execFprem (s : State) : Out :=
  if s.r.fpA.dbl != s.r.fpB.dbl then s.mismatch (s.spend.fdyadic (freeEntry s.draws))
  else
    match s.cpuMode with
    | .part j =>
      match fpPartRemainder j s.r.fpB s.r.fpA with
      | some e => { s with r := { s.r with fpB := e } }.suspendedFree.done
      | none => s.remainder
    | _ => s.remainder

/-- `fprange` (R551). -/
def execFprange (s : State) : Out :=
  let t := s.spend
  if s.r.fpA.dbl != s.r.fpB.dbl then
    s.mismatch { t.spend with r := { s.r with fpA := freeEntry s.draws, fpB := freeEntry (s.draws + 1) } }
  else
    let x := fpRemainder true s.r.round s.undTe 0 (Config.freeBit s.draws) s.r.fpB s.r.fpA
    s.fpResult s x.res.sg { t with
      r := { s.r with fpA := x.res.e, fpB := x.quotient.getD (freeEntry s.draws) } }.nearest

/-- `fpldnladdsn` (R553): a trap finds the loaded value on the stack (R518). -/
def execFpldnladdsn (s : State) : Out :=
  s.alignW s.r.areg fun a => s.loadSingle a fun t => t.pop1.fpBinary (fpAdd s.r.round s.undTe)

/-- `fpldnladddb` (R554). -/
def execFpldnladddb (s : State) : Out :=
  s.alignW s.r.areg fun a => s.loadDouble a fun t => t.pop1.fpBinary (fpAdd s.r.round s.undTe)

/-- `fpldnlmulsn` (R555). -/
def execFpldnlmulsn (s : State) : Out :=
  s.alignW s.r.areg fun a => s.loadSingle a fun t => t.pop1.fpBinary (fpMul s.r.round s.undTe)

/-- `fpldnlmuldb` (R556). -/
def execFpldnlmuldb (s : State) : Out :=
  s.alignW s.r.areg fun a => s.loadDouble a fun t => t.pop1.fpBinary (fpMul s.r.round s.undTe)

/-! ## Monadic arithmetic -/

/-- `fpmulby2` (R557). -/
def execFpmulby2 (s : State) : Out := s.fpUnary (fpScale 1 s.r.round s.undTe s.r.fpA)

/-- `fpdivby2` (R558). -/
def execFpdivby2 (s : State) : Out := s.fpUnary (fpScale (-1) s.r.round s.undTe s.r.fpA)

/-- `fpexpinc32` (R559). -/
def execFpexpinc32 (s : State) : Out := s.fpUnary (fpScale 32 s.r.round s.undTe s.r.fpA)

/-- `fpexpdec32` (R560). -/
def execFpexpdec32 (s : State) : Out := s.fpUnary (fpScale (-32) s.r.round s.undTe s.r.fpA)

/-- `fpabs` (R561). -/
def execFpabs (s : State) : Out := s.fpUnary (fpAbs s.r.fpA)

/-- `fpsqrt` (R562). -/
def execFpsqrt (s : State) : Out := s.fpUnary (fpSqrt s.r.round s.undTe s.r.fpA)

/-! ## Comparisons and class tests -/

/-- `fpeq` (R563). -/
def execFpeq (s : State) : Out := s.fpRelation false (· == .eq)

/-- `fpgt` (R564). -/
def execFpgt (s : State) : Out := s.fpRelation true (· == .gt)

/-- `fpge` (R565). -/
def execFpge (s : State) : Out := s.fpRelation true (· != .lt)

/-- `fplg` (R566). -/
def execFplg (s : State) : Out := s.fpRelation true (· != .eq)

/-- `fpordered` (R567): the floating-point stack is not popped. -/
def execFpordered (s : State) : Out :=
  if s.r.fpA.dbl != s.r.fpB.dbl then s.mismatch (s.spend.push (s.drawn 0))
  else
    let a := s.r.fpA.val
    let b := s.r.fpB.val
    s.fpResult s (opSignals2 a b) (s.push (boolWord (!(a.isNaN || b.isNaN)))).nearest

/-- `fpnan` (R569). -/
def execFpnan (s : State) : Out := s.finish (s.push (boolWord s.r.fpA.val.isNaN)).nearest

/-- `fpnotfinite` (R570). -/
def execFpnotfinite (s : State) : Out := s.finish (s.push (boolWord s.r.fpA.val.notFinite)).nearest

/-! ## Conversions -/

/-- `fpr32tor64` (R571). -/
def execFpr32tor64 (s : State) : Out :=
  if s.r.fpA.dbl then s.mismatch (s.spend.setFpA (freeEntry s.draws)) else s.fpUnary (fpWiden s.r.fpA)

/-- `fpr64tor32` (R572). -/
def execFpr64tor32 (s : State) : Out :=
  if s.r.fpA.dbl then s.fpUnary (fpNarrow s.r.round s.undTe s.r.fpA)
  else s.mismatch (s.spend.setFpA (freeEntry s.draws))

/-- `fpint` (R573). -/
def execFpint (s : State) : Out := s.fpUnary (fpIntegral s.r.round s.r.fpA)

/-- `fpchki32` (R574). -/
def execFpchki32 (s : State) : Out := s.fpResult s (rangeSignals 31 s.r.fpA.val) s.nearest

/-- `fpchki64` (R575). -/
def execFpchki64 (s : State) : Out := s.fpResult s (rangeSignals 63 s.r.fpA.val) s.nearest

/-- The signals of two halves of a compound instruction. -/
def FpSig.join (x y : FpSig) : FpSig :=
  ⟨x.err || y.err, x.inv || y.inv, x.dz || y.dz, x.ov || y.ov, x.un || y.un, x.ix || y.ix⟩

/-- `fprtoi32` (R576): a trap of the `fpint` half finds the operand, a trap of the range check the rounded value
(R518) and the rounding mode from before the instruction (log 77, DESIGN CHOICE). -/
def execFprtoi32 (s : State) : Out :=
  let x := fpIntegral s.r.round s.r.fpA
  match x.sg.trap s.r.status with
  | some et => s.fpTrap et
  | none =>
    let t := s.setFpA x.e
    s.fpResult t (x.sg.join (rangeSignals 31 x.e.val)) t.nearest

/-- `fpi32tor64` (R577). -/
def execFpi32tor64 (s : State) : Out :=
  s.alignW s.r.areg fun a => s.loadW false a fun t v => s.finish ((t.fpush (fpOfInt v.toInt)).pop1).nearest

/-- `fpi32tor32` (R578): a trap finds the exact double (R518) and the rounding mode from before the instruction (log 77,
DESIGN CHOICE). -/
def execFpi32tor32 (s : State) : Out :=
  s.alignW s.r.areg fun a => s.loadW false a fun u v =>
    let t := (u.fpush (fpOfInt v.toInt)).pop1
    t.fpUnary (fpNarrow s.r.round s.undTe t.r.fpA)

/-- `fpb32tor64` (R579). -/
def execFpb32tor64 (s : State) : Out :=
  s.alignW s.r.areg fun a => s.loadW false a fun t v => s.finish ((t.fpush (fpOfInt (Int.ofNat v.toNat))).pop1).nearest

/-- `fpadddbsn` (R580): the exact sum rounded once; the traps are those of `fpadd; fpr64tor32` (R518), and
each finds the rounding mode from before the instruction (log 77, DESIGN CHOICE). -/
def execFpadddbsn (s : State) : Out :=
  if s.r.fpA.dbl && s.r.fpB.dbl then
    let y := fpAdd s.r.round s.undTe s.r.fpB s.r.fpA
    match y.sg.trap s.r.status with
    | some et => s.fpTrap et
    | none =>
      let x := fpAddNarrow s.r.round s.undTe s.r.fpB s.r.fpA
      s.fpResult (s.fdyadic y.e) x.sg (s.fdyadic x.e).nearest
  else s.mismatch (s.spend.fdyadic (freeEntry s.draws))

end Sys2Proof.Machine
end

