-- ==== Sys2Proof/Machine/Flow.lean ====
section
/-! DEFINITION. Flow: the meanings of the jumps, the procedure and workspace instructions, the loop end and the
device loads and stores of 41_control_blockmove.md. `s` is the state with IptrReg at NextInst and EptrReg at the
instruction. -/

namespace Sys2Proof.Machine

/-! ## Jumps (R260, R261, R269) -/

/-- `j n` (R260); `j 0` is a breakpoint (44_protection_trap.md R480, D48). -/
def execJ (n : Word) (s : State) : Out :=
  if n = 0#32 then s.explicitTrap .breakpoint etNoError false
  else s.timeslicePoint (s.undefPoint.setIptr (s.r.iptr + n))

/-- `cj n` (R261). -/
def execCj (n : Word) (s : State) : Out :=
  if s.r.areg = 0#32 then s.finish (s.setIptr (s.r.iptr + n)) else s.finish s.pop1

/-- `nop` (R269). -/
def execNop (s : State) : Out := s.finish s

/-! ## Procedures and the workspace pointer (R263 to R267) -/

/-- `call n` (R263). -/
def execCall (n : Word) (s : State) : Out :=
  let w := s.r.slot (-4)
  s.checkWptr w (s.storeWs w [s.r.iptr, s.r.areg, s.r.breg, s.r.creg] fun t =>
    s.finish (((t.setWptr w).setIptr (s.r.iptr + n)).oneResult s.r.iptr))

/-- `gcall` (R264). -/
def execGcall (s : State) : Out := s.finish ((s.setIptr s.r.areg).setA s.r.iptr)

/-- `ret` (R265). -/
def execRet (s : State) : Out :=
  s.loadW false s.r.wptr fun t v => s.finish ((t.setWptr (s.r.slot 4)).setIptr v)

/-- `ajw n` (R266). -/
def execAjw (n : Word) (s : State) : Out :=
  s.checkWptr (atn s.r.wptr n) (s.finish (s.setWptr (atn s.r.wptr n)))

/-- `gajw` (R267). -/
def execGajw (s : State) : Out :=
  s.alignW s.r.areg fun a => s.checkWptr a (s.finish ((s.setWptr a).setA s.r.wptr))

/-! ## Loop end (R268) -/

/-- `lend` (R268). -/
def execLend (s : State) : Out :=
  s.alignW s.r.breg fun b => s.loadW false (b + 4#32) fun t v =>
    let c := v - 1#32
    if (0#32).slt c then
      t.loadW false b fun u i => u.storeWs b [i + 1#32, c] fun u =>
        s.timeslicePoint (u.undefPoint.setIptr (s.r.iptr - s.r.areg))
    else
      t.storeW false (b + 4#32) c fun u => s.timeslicePoint u.undefPoint

/-! ## Device accesses (R275 to R280, R282) -/

/-- `devlb` (R275). -/
def execDevlb (s : State) : Out := s.device.loadB true s.r.areg fun t v => s.finish (t.setA (v.setWidth 32))

/-- `devls` (R276). -/
def execDevls (s : State) : Out :=
  s.device.alignH s.r.areg fun a => s.device.loadH true a fun t v => s.finish (t.setA (v.setWidth 32))

/-- `devlw` (R277). -/
def execDevlw (s : State) : Out :=
  s.device.alignW s.r.areg fun a => s.device.loadW true a fun t v => s.finish (t.setA v)

/-- `devsb` (R278). -/
def execDevsb (s : State) : Out :=
  s.device.storeB true s.r.areg (s.r.breg.setWidth 8) fun t => s.finish t.pop2

/-- `devss` (R279). -/
def execDevss (s : State) : Out :=
  s.device.alignH s.r.areg fun a => s.device.storeH true a (s.r.breg.setWidth 16) fun t => s.finish t.pop2

/-- `devsw` (R280). -/
def execDevsw (s : State) : Out :=
  s.device.alignW s.r.areg fun a => s.device.storeW true a s.r.breg fun t => s.finish t.pop2

end Sys2Proof.Machine
end

