-- ==== Sys2Proof/Machine/Integer.lean ====
section
/-! DEFINITION. Integer: the meanings of the instructions of 40_integer.md: constants, locals, non-local access,
bytes and sixteen-bit objects, arithmetic, logic, shifts, comparison, long arithmetic, conversion, checks, bits
and CRC. `s` is the state with IptrReg at NextInst and EptrReg at the instruction. -/

namespace Sys2Proof.Machine

/-! ## Computations -/

/-- An exact result lies in −2^31 .. 2^31−1 (R178). -/
def fitsWord (r : Int) : Bool := decide (-2147483648 ≤ r) && decide (r ≤ 2147483647)

/-- An exact result wrapped to a word (R178). -/
abbrev wrap (r : Int) : Word := BitVec.ofInt 32 r

/-- An exact natural result wrapped to a word. -/
abbrev wrapNat (r : Nat) : Word := BitVec.ofNat 32 r

/-- The carry in of the long instructions: Creg[0] (R210). -/
abbrev carryIn (c : Word) : Nat := (c &&& 1#32).toNat

/-- Two words as a double length number, the first the more significant. -/
abbrev longOf (hi lo : Word) : Nat := hi.toNat * 4294967296 + lo.toNat

/-- `round_nearest_even(p / 2^31)` (R186). -/
def roundFraction (p : Int) : Int :=
  let q := p / 2147483648
  let f := p % 2147483648
  if 1073741824 < f || (f == 1073741824 && q % 2 == 1) then q + 1 else q

/-- A word with exactly one bit set. -/
def isPower (w : Word) : Bool := w != 0#32 && w &&& (w - 1#32) == 0#32

/-- The leading zeros of the `n` low bits of a double word. -/
def leadingZeros (d : Dword) : Nat → Nat
  | 0 => 0
  | n + 1 => if d.getLsbD n then 0 else 1 + leadingZeros d n

/-- The number of set bits among the `n` low bits of a word (R235). -/
def popCount (w : Word) : Nat → Nat
  | 0 => 0
  | n + 1 => (if w.getLsbD n then 1 else 0) + popCount w n

/-- The `n` low bits of a word reversed, zeros above (R236, R237). -/
def reverseBits (w : Word) : Nat → Word
  | 0 => 0#32
  | n + 1 => reverseBits (w >>> 1) n ||| (if w.getLsbD 0 then 1#32 <<< n else 0#32)

/-- `n` steps of the CRC of R238: `data` is shifted in from its top bit. -/
def crcSteps (generator : Word) : Nat → Word → Word → Word
  | 0, t, _ => t
  | n + 1, t, data =>
    crcSteps generator n
      (((t <<< 1) + (data >>> 31)) ^^^ (if t.msb then generator else 0#32)) (data <<< 1)

/-- The value of `xword` where it is defined (R228). -/
def extendWord (v top : Word) : Option Word :=
  if !isPower top then none
  else if top = mostNeg then some v
  else if !v.slt 0#32 && v.slt top then some v
  else if !v.slt top && (v >>> 1) < top then some (v - (top <<< 1))
  else none

/-- The result of a dyadic instruction whose value is undefined. -/
def State.dyadicFree (s : State) : State :=
  { s with r := { s.r with areg := s.drawn 0, breg := s.r.creg, creg := s.drawn 1 }, draws := s.draws + 2 }

/-- A dyadic result that may be undefined. -/
def State.dyadicOpt (s : State) (v : Option Word) : State :=
  match v with
  | some w => s.dyadic w
  | none => s.dyadicFree

/-! ## Constants, locals, stack (40_integer.md section 2) -/

/-- `ldc n` (R161). -/
def execLdc (n : Word) (s : State) : Out := s.finish (s.push n)

/-- `ldl n` (R162). -/
def execLdl (n : Word) (s : State) : Out :=
  s.withAddr false .read (atn s.r.wptr n) fun p => s.finish ((s.readLocal p).2.push (s.readLocal p).1)

/-- `stl n` (R163). -/
def execStl (n : Word) (s : State) : Out :=
  s.storeW false (atn s.r.wptr n) s.r.areg fun t => s.finish t.pop1

/-- `ldlp n` (R164). -/
def execLdlp (n : Word) (s : State) : Out := s.finish (s.push (atn s.r.wptr n))

/-- `mint` (R165). -/
def execMint (s : State) : Out := s.finish (s.push mostNeg)

/-- `rev` (R207). -/
def execRev (s : State) : Out := s.finish (s.setAB s.r.breg s.r.areg)

/-- `pop` (R208). -/
def execPop (s : State) : Out := s.finish s.pop1

/-- `dup` (R209). -/
def execDup (s : State) : Out := s.finish (s.push s.r.areg)

/-! ## Non-local access and addresses (section 3) -/

/-- `ldnl n` (R166). -/
def execLdnl (n : Word) (s : State) : Out :=
  s.alignW s.r.areg fun a => s.loadW false (atn a n) fun t v => s.finish (t.setA v)

/-- `stnl n` (R167). -/
def execStnl (n : Word) (s : State) : Out :=
  s.alignW s.r.areg fun a => s.storeW false (atn a n) s.r.breg fun t => s.finish t.pop2

/-- `ldnlp n` (R168). -/
def execLdnlp (n : Word) (s : State) : Out := s.finish (s.setA (atn s.r.areg n))

/-- `ldpi` (R169). -/
def execLdpi (s : State) : Out := s.finish (s.setA (s.r.iptr + s.r.areg))

/-- `bsub` (R193). -/
def execBsub (s : State) : Out := s.finish (s.dyadic (s.r.areg + s.r.breg))

/-- `ssub` (R194). -/
def execSsub (s : State) : Out := s.finish (s.dyadic (s.r.areg + 2#32 * s.r.breg))

/-- `wsub` (R195). -/
def execWsub (s : State) : Out := s.finish (s.dyadic (atn s.r.areg s.r.breg))

/-- `wsubdb` (R196). -/
def execWsubdb (s : State) : Out := s.finish (s.dyadic (atn s.r.areg (2#32 * s.r.breg)))

/-- `bcnt` (R197). -/
def execBcnt (s : State) : Out := s.finish (s.setA (4#32 * s.r.areg))

/-- `wcnt` (R198). -/
def execWcnt (s : State) : Out :=
  s.finish (s.setABC (s.r.areg.sshiftRight 2) (s.r.areg &&& 3#32) s.r.breg)

/-! ## Bytes and sixteen-bit objects (section 4) -/

/-- `lb` (R170). -/
def execLb (s : State) : Out := s.loadB false s.r.areg fun t v => s.finish (t.setA (v.setWidth 32))

/-- `lbx` (R171). -/
def execLbx (s : State) : Out := s.loadB false s.r.areg fun t v => s.finish (t.setA (v.signExtend 32))

/-- `ls` (R172). -/
def execLs (s : State) : Out :=
  s.alignH s.r.areg fun a => s.loadH false a fun t v => s.finish (t.setA (v.setWidth 32))

/-- `lsx` (R173). -/
def execLsx (s : State) : Out :=
  s.alignH s.r.areg fun a => s.loadH false a fun t v => s.finish (t.setA (v.signExtend 32))

/-- `sb` (R174). -/
def execSb (s : State) : Out :=
  s.storeB false s.r.areg (s.r.breg.setWidth 8) fun t => s.finish t.pop2

/-- `ss` (R175). -/
def execSs (s : State) : Out :=
  s.alignH s.r.areg fun a => s.storeH false a (s.r.breg.setWidth 16) fun t => s.finish t.pop2

/-! ## Arithmetic (section 5) -/

/-- `adc n` (R180). -/
def execAdc (n : Word) (s : State) : Out :=
  let r := s.r.areg.toInt + n.toInt
  s.overflow (!fitsWord r) (s.setA (wrap r))

/-- `add` (R181). -/
def execAdd (s : State) : Out :=
  let r := s.r.breg.toInt + s.r.areg.toInt
  s.overflow (!fitsWord r) (s.dyadic (wrap r))

/-- `sub` (R182). -/
def execSub (s : State) : Out :=
  let r := s.r.breg.toInt - s.r.areg.toInt
  s.overflow (!fitsWord r) (s.dyadic (wrap r))

/-- `mul` (R183). -/
def execMul (s : State) : Out :=
  let r := s.r.areg.toInt * s.r.breg.toInt
  s.overflow (!fitsWord r) (s.dyadic (wrap r))

/-- `div` (R205). -/
def execDiv (s : State) : Out :=
  if s.r.areg = 0#32 ∨ (s.r.breg = mostNeg ∧ s.r.areg = 0xFFFFFFFF#32) then s.overflow true s.dyadicFree
  else s.finish (s.dyadic (wrap (s.r.breg.toInt.tdiv s.r.areg.toInt)))

/-- `rem` (R206). -/
def execRem (s : State) : Out :=
  if s.r.areg = 0#32 then s.overflow true s.dyadicFree
  else s.finish (s.dyadic (wrap (s.r.breg.toInt.tmod s.r.areg.toInt)))

/-- `sum` (R184). -/
def execSum (s : State) : Out := s.finish (s.dyadic (s.r.breg + s.r.areg))

/-- `diff` (R202). -/
def execDiff (s : State) : Out := s.finish (s.dyadic (s.r.breg - s.r.areg))

/-- `prod` (R185). -/
def execProd (s : State) : Out := s.finish (s.dyadic (s.r.areg * s.r.breg))

/-- `fmul` (R186). -/
def execFmul (s : State) : Out :=
  if s.r.areg = mostNeg ∧ s.r.breg = mostNeg then s.overflow true s.dyadicFree
  else s.finish (s.dyadic (wrap (roundFraction (s.r.breg.toInt * s.r.areg.toInt))))

/-! ## Logic and shifts (section 6) -/

/-- `and` (R187). -/
def execAnd (s : State) : Out := s.finish (s.dyadic (s.r.breg &&& s.r.areg))

/-- `or` (R188). -/
def execOr (s : State) : Out := s.finish (s.dyadic (s.r.breg ||| s.r.areg))

/-- `xor` (R189). -/
def execXor (s : State) : Out := s.finish (s.dyadic (s.r.breg ^^^ s.r.areg))

/-- `not` (R190). -/
def execNot (s : State) : Out := s.finish (s.setA (~~~ s.r.areg))

/-- `shl` (R191). -/
def execShl (s : State) : Out :=
  s.finish (s.dyadic (if s.r.areg < 32#32 then s.r.breg <<< s.r.areg.toNat else 0#32))

/-- `shr` (R192). -/
def execShr (s : State) : Out :=
  s.finish (s.dyadic (if s.r.areg < 32#32 then s.r.breg >>> s.r.areg.toNat else 0#32))

/-! ## Comparison (section 7) -/

/-- `eqc n` (R200). -/
def execEqc (n : Word) (s : State) : Out := s.finish (s.setA (boolWord (s.r.areg == n)))

/-- `gt` (R201). -/
def execGt (s : State) : Out := s.finish (s.dyadic (boolWord (s.r.areg.slt s.r.breg)))

/-- `gtu` (R203). -/
def execGtu (s : State) : Out := s.finish (s.dyadic (boolWord (s.r.areg.ult s.r.breg)))

/-! ## Long arithmetic (section 8) -/

/-- `ladd` (R210). -/
def execLadd (s : State) : Out :=
  let r := s.r.areg.toInt + s.r.breg.toInt + carryIn s.r.creg
  s.overflow (!fitsWord r) (s.oneResult (wrap r))

/-- `lsub` (R211). -/
def execLsub (s : State) : Out :=
  let r := s.r.breg.toInt - s.r.areg.toInt - carryIn s.r.creg
  s.overflow (!fitsWord r) (s.oneResult (wrap r))

/-- `lsum` (R212). -/
def execLsum (s : State) : Out :=
  let r := s.r.areg.toNat + s.r.breg.toNat + carryIn s.r.creg
  s.finish (s.twoResults (wrapNat r) (boolWord (decide (0xFFFFFFFF < r))))

/-- `ldiff` (R213). -/
def execLdiff (s : State) : Out :=
  let r : Int := (s.r.breg.toNat : Int) - s.r.areg.toNat - carryIn s.r.creg
  s.finish (s.twoResults (wrap r) (boolWord (decide (r < 0))))

/-- `lmul` (R214). -/
def execLmul (s : State) : Out :=
  let r := s.r.breg.toNat * s.r.areg.toNat + s.r.creg.toNat
  s.finish (s.twoResults (wrapNat r) (wrapNat (r / 4294967296)))

/-- `ldiv` (R215, D30). -/
def execLdiv (s : State) : Out :=
  if s.r.areg ≤ s.r.creg then
    s.overflow true { s with
      r := { s.r with areg := s.drawn 0, breg := s.drawn 1, creg := s.drawn 2 }, draws := s.draws + 3 }
  else
    let d := longOf s.r.creg s.r.breg
    s.finish (s.twoResults (wrapNat (d / s.r.areg.toNat)) (wrapNat (d % s.r.areg.toNat)))

/-- `lshl` (R216). -/
def execLshl (s : State) : Out :=
  let d := dwordOf s.r.creg s.r.breg
  let r := if s.r.areg < 64#32 then d <<< s.r.areg.toNat else 0#64
  s.finish (s.twoResults (r.setWidth 32) ((r >>> 32).setWidth 32))

/-- `lshr` (R217). -/
def execLshr (s : State) : Out :=
  let d := dwordOf s.r.creg s.r.breg
  let r := if s.r.areg < 64#32 then d >>> s.r.areg.toNat else 0#64
  s.finish (s.twoResults (r.setWidth 32) ((r >>> 32).setWidth 32))

/-- `norm` (R218, D31). -/
def execNorm (s : State) : Out :=
  let d := dwordOf s.r.breg s.r.areg
  let k := leadingZeros d 64
  let r := if k < 64 then d <<< k else 0#64
  s.finish (s.setABC (r.setWidth 32) ((r >>> 32).setWidth 32) (wrapNat k))

/-! ## Object lengths (section 9) -/

/-- `xbword` (R220). -/
def execXbword (s : State) : Out := s.finish (s.setA ((s.r.areg.setWidth 8).signExtend 32))

/-- `xsword` (R221). -/
def execXsword (s : State) : Out := s.finish (s.setA ((s.r.areg.setWidth 16).signExtend 32))

/-- `cb` (R222). -/
def execCb (s : State) : Out :=
  s.check (decide (-128 ≤ s.r.areg.toInt ∧ s.r.areg.toInt < 128)) (s.finish s)

/-- `cbu` (R223). -/
def execCbu (s : State) : Out :=
  s.check (decide (0 ≤ s.r.areg.toInt ∧ s.r.areg.toInt < 256)) (s.finish s)

/-- `cs` (R224). -/
def execCs (s : State) : Out :=
  s.check (decide (-32768 ≤ s.r.areg.toInt ∧ s.r.areg.toInt < 32768)) (s.finish s)

/-- `csu` (R225). -/
def execCsu (s : State) : Out :=
  s.check (decide (0 ≤ s.r.areg.toInt ∧ s.r.areg.toInt < 65536)) (s.finish s)

/-- `xdble` (R226). -/
def execXdble (s : State) : Out :=
  s.finish (s.setABC s.r.areg (if s.r.areg.msb then 0xFFFFFFFF#32 else 0#32) s.r.breg)

/-- `csngl` (R227). -/
def execCsngl (s : State) : Out :=
  s.check (s.r.breg == if s.r.areg.msb then 0xFFFFFFFF#32 else 0#32) (s.finish (s.dyadic s.r.areg))

/-- `xword` (R228). -/
def execXword (s : State) : Out := s.finish (s.dyadicOpt (extendWord s.r.breg s.r.areg))

/-- `cword` (R229, D32) (log 40, DEDUCED). -/
def execCword (s : State) : Out :=
  s.check (s.r.areg == mostNeg || decide (-s.r.areg.toInt ≤ s.r.breg.toInt ∧ s.r.breg.toInt < s.r.areg.toInt))
    (s.finish (s.dyadicOpt (if isPower s.r.areg then some s.r.breg else none)))

/-! ## Range checks (section 10) -/

/-- `csub0` (R230). -/
def execCsub0 (s : State) : Out := s.check (s.r.breg.ult s.r.areg) (s.finish (s.dyadic s.r.breg))

/-- `ccnt1` (R231). -/
def execCcnt1 (s : State) : Out :=
  s.check (s.r.breg != 0#32 && s.r.breg.ule s.r.areg) (s.finish (s.dyadic s.r.breg))

/-- `cir` (R232). -/
def execCir (s : State) : Out :=
  s.check (s.r.areg.sle s.r.creg && s.r.creg.sle s.r.breg) (s.finish (s.oneResult s.r.creg))

/-- `ciru` (R233). -/
def execCiru (s : State) : Out :=
  s.check (s.r.areg.ule s.r.creg && s.r.creg.ule s.r.breg) (s.finish (s.oneResult s.r.creg))

/-! ## Bits and CRC (section 11) -/

/-- `bitcnt` (R235). -/
def execBitcnt (s : State) : Out := s.finish (s.dyadic (s.r.breg + wrapNat (popCount s.r.areg 32)))

/-- `bitrevword` (R236). -/
def execBitrevword (s : State) : Out := s.finish (s.setA (reverseBits s.r.areg 32))

/-- `bitrevnbits` (R237, D33). -/
def execBitrevnbits (s : State) : Out :=
  s.finish (s.dyadicOpt
    (if s.r.areg ≤ 32#32 then some (reverseBits s.r.breg s.r.areg.toNat) else none))

/-- `crcword` (R238). -/
def execCrcword (s : State) : Out := s.finish (s.dyadic (crcSteps s.r.creg 32 s.r.breg s.r.areg))

/-- `crcbyte` (R239). -/
def execCrcbyte (s : State) : Out := s.finish (s.dyadic (crcSteps s.r.creg 8 s.r.breg s.r.areg))

end Sys2Proof.Machine
end

