-- ==== Sys2Proof/Machine/Process.lean ====
section
/-! DEFINITION. Process: the meanings of the instructions of 42_process_sched.md: processes, the shadow
registers, interrupts and timeslicing, timers, queues, semaphores. `s` is the state with IptrReg at NextInst and
EptrReg at the instruction. -/

namespace Sys2Proof.Machine

/-! ## Starting and ending processes (R330 to R334) -/

/-- `startp` (R330). -/
def execStartp (s : State) : Out :=
  s.privileged (s.alignW s.r.areg fun a =>
    let t := (s.iput (atw a (-1)) (s.r.iptr + s.r.breg)).iput (atw a (-3)) s.r.th
    s.finish (t.scheduleBy (a ||| s.r.priority)).undefStacks)

/-- `endp` (R331). -/
def execEndp (s : State) : Out :=
  s.privileged (s.alignW s.r.areg fun a =>
    let c := s.wordAt (atw a 1) - 1#32
    let t := (s.touch false (atw a 1)).iput (atw a 1) c
    if c = 0#32 then
      let t := t.touch false a
      s.finish ((t.setWptr a).setIptr (t.wordAt a)).undefPoint
    else s.leave t.saveStatus)

/-- `runp` (R332). -/
def execRunp (s : State) : Out := s.privileged (s.finish (s.scheduleBy s.r.areg).undefStacks)

/-- `stopp` (R333). -/
def execStopp (s : State) : Out := s.privileged (s.deschedule s)

/-- `ldpri` (R334). -/
def execLdpri (s : State) : Out := s.finish (s.push s.r.priority)

/-! ## The shadow registers (R341 to R343) -/

/-- Xreg as a word: it tells whether an instruction has been interrupted (N40; log 29, DESIGN CHOICE). -/
def Regs.xregWord (r : Regs) : Word :=
  if r.midInstr then Config.resumeMark else if r.xreg = Config.resumeMark then r.xreg + 1#32 else r.xreg

/-- The words of group `g` of the shadow registers (R341); none stands for a word that is not written: the upper word of a
floating-point register that holds a single, which R341 gives a word and only `fpstall` (46_floating_point_ops.md R545) is
said to leave alone (log 79, DESIGN CHOICE). `free` is what the reserved bits of the status hold (log 28, DESIGN CHOICE),
which of the interrupted null process is 0 (R340). -/
def shadowGroup (r : Regs) (free : Word) (g : Nat) : List (Option Word) :=
  match g with
  | 0 => [some r.region.q0, some r.region.q1, some r.region.q2, some r.region.q3]
  | 1 => [some r.pstate, some r.wstub]
  | 2 => [some r.th]
  | 3 => [some (if r.wdesc = notProcess ∧ r.status = 0#32 then 0#32 else controlWord r.status free)]
  | 4 => [some r.wdesc, some r.iptr, some r.areg, some r.breg, some r.creg, some r.ereg, some r.xregWord, some r.bm0,
      some r.bm1, some r.bm2, some r.eptr]
  | 5 => r.fpWords
  | _ => [some r.wl, some r.wu]

/-- How many words a group takes (R341). -/
def groupSize (g : Nat) : Nat :=
  match g with
  | 0 => 4
  | 1 => 2
  | 2 => 1
  | 3 => 1
  | 4 => 11
  | 5 => 7
  | _ => 2

/-- The words of the `n` groups from group `g` on. -/
def shadowWords (r : Regs) (free : Word) : Nat → Nat → List (Option Word)
  | _, 0 => []
  | g, n + 1 => shadowGroup r free g ++ shadowWords r free (g + 1) n

/-- Group `g` loaded from words `w 0`, `w 1`, … (R341, R342); `d` is the first of four draws. Bits 31:8 of the word of
FPstatusReg are ignored, which the spec refuses for `fpldall` only (46_floating_point_ops.md R581; log 80, DESIGN CHOICE). -/
def loadGroup (r : Regs) (w : Nat → Word) (g d : Nat) : Regs :=
  match g with
  | 0 => { r with region := ⟨w 0, w 1, w 2, w 3⟩ }
  | 1 => { r with pstate := w 0, wstub := w 1 }
  | 2 => { r with th := w 0 }
  | 3 => { r with status := loadControl (w 0) (Config.freeWord d) }
  | 4 => { r with
      wdesc := w 0, iptr := w 1, areg := w 2, breg := w 3, creg := w 4, ereg := w 5, xreg := w 6, bm0 := w 7
      bm1 := w 8, bm2 := w 9, eptr := w 10, midInstr := w 6 == Config.resumeMark }
  | 5 => { r with
      round := (w 0).setWidth 2, fpA := fpSlot (w 0) 0 (w 1) (w 2) (d + 1), fpB := fpSlot (w 0) 1 (w 3) (w 4) (d + 2)
      fpC := fpSlot (w 0) 2 (w 5) (w 6) (d + 3) }
  | _ => { r with wl := w 0, wu := w 1 }

/-- The `n` groups from group `g` on loaded from the word places from `a` on. -/
def State.loadGroups (s : State) (a : Word) (r : Regs) : Nat → Nat → Regs
  | _, 0 => r
  | g, n + 1 =>
    State.loadGroups s (a + 4#32 * BitVec.ofNat 32 (groupSize g))
      (loadGroup r (fun i => s.wordAt (a + 4#32 * BitVec.ofNat 32 i)) g s.draws) (g + 1) n

/-- The values R342 excludes. -/
def badShadow (r : Regs) : Bool :=
  (r.wdesc != notProcess && r.wdesc &&& 3#32 != 1#32) || r.th &&& 3#32 != 0#32 || r.pstate &&& 3#32 != 0#32 ||
    r.wstub &&& 3#32 != 1#32

/-- The `n` groups from group `g` on hold group `k`. -/
abbrev groupIn (g n k : Nat) : Bool := decide (g ≤ k) && decide (k < g + n)

/-- A control word loaded into the shadow registers, or bounds loaded beside it, that enables the watchpoint with bounds
that are not allowed (44_protection_trap.md R484). -/
def badWatch (g n : Nat) (r : Regs) : Bool :=
  (groupIn g n 3 || groupIn g n 6) && bitOf r.status sbWtchPntEnbl && badBounds r.wl r.wu

/-- The groups `first .. last - 1` are a block that R342 and R343 admit. -/
def State.markersOk (s : State) : Bool := !s.r.low && s.r.areg.slt s.r.breg && !s.r.areg.slt 0#32 && s.r.breg.sle 7#32

/-- Some fields of the shadow registers as the excluded values are looked for in the loaded groups only. -/
def shadowChecked (g n : Nat) (r : Regs) : Regs :=
  { r with
    wdesc := if g ≤ 4 ∧ 4 < g + n then r.wdesc else notProcess
    th := if g ≤ 2 ∧ 2 < g + n then r.th else 0#32
    pstate := if g ≤ 1 ∧ 1 < g + n then r.pstate else 0#32
    wstub := if g ≤ 1 ∧ 1 < g + n then r.wstub else 1#32 }

/-- `ldshadow` (R342) (log 45, DESIGN CHOICE). -/
def execLdshadow (s : State) : Out :=
  s.privileged (s.alignW s.r.creg fun a =>
    if !s.markersOk then .fault .shadowMarkers
    else
      let g := s.r.areg.toNat
      let n := s.r.breg.toNat - g
      let r := s.loadGroups a s.sh g n
      if badShadow (shadowChecked g n r) then .fault .shadowValues
      else if badWatch g n r then .fault .watchBounds
      else
        let t := s.touchBytes false a (4 * (shadowWords s.sh 0#32 g n).length)
        s.finish { t with sh := r, draws := t.draws + 4 }.undefStacks)

/-- The shadow registers as `stshadow` finds them: any value where no process has been interrupted (R343). -/
def State.shadows (s : State) : Regs := if s.shadowValid then s.sh else drawnRegs s.draws

/-- `stshadow` (R343). -/
def execStshadow (s : State) : Out :=
  s.privileged (s.alignW s.r.creg fun a =>
    if !s.markersOk then .fault .shadowMarkers
    else
      let g := s.r.areg.toNat
      let n := s.r.breg.toNat - g
      { s with draws := s.draws + regDraws + 1 }.storeAll (someWordsAt a (shadowWords s.shadows (s.drawn regDraws) g n)) fun t =>
        s.finish t.undefStacks)

/-! ## Interrupts and timeslicing (R345 to R347) -/

/-- `intdis` (R345). -/
def execIntdis (s : State) : Out := s.privileged (s.finish { s with intEnabled := false })

/-- `intenb` (R345). -/
def execIntenb (s : State) : Out := s.privileged (s.finish { s with intEnabled := true })

/-- `settimeslice` (R346). -/
def execSettimeslice (s : State) : Out :=
  s.privileged
    (let old := boolWord (!bitOf s.r.status sbTimesliceDisabledBit)
     let put (w : Word) : Out := s.finish { s with r := { s.r with status := w, areg := old } }
     if s.r.areg = 0#32 then put (setBit s.r.status sbTimesliceDisabledBit)
     else if s.r.areg = 1#32 then put (clearBit s.r.status sbTimesliceDisabledBit)
     else .fault .timesliceOperand)

/-- `timeslice` (R347); in a P-process the timeslice trap (44_protection_trap.md R463). -/
def execTimeslice (s : State) : Out :=
  if s.r.isP then s.timesliceTrap s.r.step
  else s.leave ((s.saveContext).enqueue s.r.low s.r.wptr)

/-! ## Timers (R353 to R357) -/

/-- `ldtimer` (R353). -/
def execLdtimer (s : State) : Out := s.finish (s.push (s.sched s.r.low).clock)

/-- `sttimer` (R354) (log 41, DESIGN CHOICE). -/
def execSttimer (s : State) : Out :=
  s.privileged (s.finish { s with
    hi := { s.hi with clock := s.r.areg }, lo := { s.lo with clock := s.r.areg }
    clockRunning := true, tickPhase := 0#8 }.pop1)

/-- `tin` (R355). Interrupted in the search of the list, it goes on with the search. -/
def execTin (s : State) : Out :=
  s.privileged
    (if !s.resuming && after (s.sched s.r.low).clock s.r.areg then s.finish s.undefPoint
     else if s.searchSplit then s.suspendedFree.done
     else
       let t := (s.iput (s.r.slot (-4)) enablingP).iput (s.r.slot (-6)) (s.r.areg + 1#32)
       s.deschedule (t.timerInsert s.r.low s.r.wptr (s.r.areg + 1#32) runFuel none))

/-- A queue instruction's priority operand (section 6). -/
def State.queueOperand (s : State) (k : Out) : Out := if s.r.areg.ult 2#32 then k else .fault .queuePriority

/-- `swaptimer` (R357). -/
def execSwaptimer (s : State) : Out :=
  s.privileged (s.queueOperand
    (let low := s.r.areg == 1#32
     let q := s.sched low
     if s.r.breg = notProcess then s.finish ((s.setSched low { q with tptr := s.r.breg }).oneResult q.tptr)
     else if s.r.breg &&& 3#32 ≠ 0#32 then .fault .queueAlignment
     else
       let t := s.touch false (atw s.r.breg (-6))
       s.finish ((t.setSched low { q with tptr := s.r.breg, tnext := s.wordAt (atw s.r.breg (-6)) }).oneResult q.tptr)))

/-! ## Scheduler queues (R358, R359) -/

/-- A queue operand of Breg and Creg is aligned unless it is empty. -/
abbrev State.queueAligned (s : State) : Bool := s.r.breg == notProcess || (s.r.breg ||| s.r.creg) &&& 3#32 == 0#32

/-- `swapqueue` (R358). -/
def execSwapqueue (s : State) : Out :=
  s.privileged (s.queueOperand
    (if !s.queueAligned then .fault .queueAlignment
     else
       let low := s.r.areg == 1#32
       let q := s.sched low
       s.finish ((s.setSched low { q with fptr := s.r.breg, bptr := s.r.creg }).twoResults q.fptr q.bptr)))

/-- `insertqueue` (R359). -/
def execInsertqueue (s : State) : Out :=
  s.privileged (s.queueOperand
    (if !s.queueAligned then .fault .queueAlignment
     else if s.r.breg = notProcess then s.finish s.undefStack
     else s.finish (s.insertFront (s.r.areg == 1#32) s.r.breg s.r.creg).undefStack))

/-! ## Semaphores (R360 to R362) -/

/-- Append a descriptor to the queue of the semaphore at `a` (R362). -/
def State.semAppend (s : State) (a d : Word) : State :=
  let s := (s.touch false (atw a 1)).touch false (atw a 2)
  let s := if s.wordAt (atw a 1) = notProcess then s.iput (atw a 1) d
    else s.iput (atw (s.wordAt (atw a 2) &&& 0xFFFFFFFC#32) (-2)) d
  s.iput (atw a 2) d

/-- `wait` (R360). -/
def execWait (s : State) : Out :=
  s.privileged (s.alignW s.r.areg fun a =>
    let t := s.touch false a
    let c := s.wordAt a
    if c = 0#32 then s.deschedule (t.semAppend a s.r.wdesc)
    else s.overflow (c == mostNeg) (t.iput a (c - 1#32)).undefPoint)

/-- `signal` (R361). -/
def execSignal (s : State) : Out :=
  s.privileged (s.alignW s.r.areg fun a =>
    let t := s.touch false (atw a 1)
    let d := s.wordAt (atw a 1)
    if d = notProcess then
      let t := t.touch false a
      s.overflow (s.wordAt a == mostPos) (t.iput a (s.wordAt a + 1#32)).undefStacks
    else
      let t := t.touch false (atw a 2)
      let w := d &&& 0xFFFFFFFC#32
      let t := if d = s.wordAt (atw a 2) then t.iput (atw a 1) notProcess
        else (t.touch false (atw w (-2))).iput (atw a 1) (s.wordAt (atw w (-2)))
      s.finish (t.scheduleBy d).undefStacks)

/-! ## The error record (R365) -/

/-- `testpranal` (R365): ErrorSinceReset is read and cleared (60_exceptions.md R745), whatever SysServWriteLock (R73)
(log 18, DEDUCED). -/
def execTestpranal (s : State) : Out :=
  s.privileged (s.finish (State.push { s with conf := { s.conf with errorSinceReset := false } }
    (boolWord s.conf.errorSinceReset)))

end Sys2Proof.Machine
end

