-- ==== Sys2Proof/Machine/Resource.lean ====
section
/-! DEFINITION. Resource: the meanings of the resource channel instructions (43_channels_alt.md R427 to R433). `s`
is the state with IptrReg at NextInst and EptrReg at the instruction. -/

namespace Sys2Proof.Machine

/-- The kinds of channel the resource instructions accept: internal, virtual input, event (R427). -/
def ChanKind.canResource (k : ChanKind) : Bool :=
  match k with
  | .internal => true
  | .virt _ out => !out
  | .event _ _ => true
  | _ => false

/-- An event output channel, which the resource rules leave undefined (R425). -/
def ChanKind.eventOut (k : ChanKind) : Bool :=
  match k with
  | .event _ out => out
  | _ => false

/-- The checks of a resource instruction on its channel address. -/
def State.resourceArg (s : State) (a : Word) (k : Word → Out) : Out :=
  s.channelArg a ChanKind.canResource fun c =>
    if (s.kind c).eventOut then .fault .channelDirection else k c

/-- `mkrc` puts a channel on the queue of an RDS as `claim` does, where no server waits (R427). -/
def State.markOn (s : State) (r c : Word) : State := (s.touch false r).queueResource true r c

/-- An external channel is put into resource mode (R427): idle, or queued where a packet or event is held. -/
def State.resourceMode (s : State) (c r : Word) : Except Fault State :=
  match s.kind c with
  | .virt k _ =>
    let v := s.vlcbFor k false
    if s.vcp.mode = .resetting then .error .vcpResetting
    else if v.held.isSome && s.wordAt r != notProcess then .error .resourceBothWaiting
    else
      let t := s.setVlcb k { v with inp := { v.inp with resource := true, queued := false } }
      .ok (if v.held.isSome then (t.markOn r c).markQueued c else t)
  | .event e _ =>
    let p := s.events.get e
    if p.ready && s.wordAt r != notProcess then .error .resourceBothWaiting
    else
      let t := (s.aput c resChanP).setPair e { p with queued := false }
      .ok (if p.ready then (t.markOn r c).markQueued c else t)
  | _ => .error .channelDirection

/-- `mkrc` (R427). -/
def execMkrc (s : State) : Out :=
  s.privileged (s.resourceArg s.r.areg fun c =>
    let rc := s.rc c
    let r := wordAddr s.r.breg
    let t := s.touch false (atw rc 1)
    if s.wordAt (atw rc 1) ≠ notProcess then s.finish t.undefStack
    else
      let t := t.iput (atw rc 1) s.r.creg
      match s.kind c with
      | .internal =>
        let t := t.touch false c
        if s.wordAt c = notProcess then s.finish ((t.iput rc s.r.breg).iput c resChanP).undefStack
        else if s.wordAt r ≠ notProcess then .fault .resourceBothWaiting
        else s.finish (t.markOn r c).undefStack
      | _ =>
        match (t.iput rc s.r.breg).resourceMode c r with
        | .ok u => s.finish u.undefStack
        | .error f => .fault f)

/-- `grant` (R428). -/
def execGrant (s : State) : Out :=
  s.privileged (s.alignW s.r.areg fun a => s.alignW s.r.breg fun b =>
    let t := s.touch false (atw a 1)
    let c := s.wordAt (atw a 1)
    if c = notProcess then
      let t := (t.touch false a).iput a s.r.wdesc
      s.deschedule (t.iput (s.r.slot (-4)) b)
    else
      let rc := s.rc c
      let t := ((t.touch false (atw rc 1)).touch false rc).touch false (atw a 2)
      let next := if c = s.wordAt (atw a 2) then notProcess else s.wordAt rc
      let t := (t.iput b (s.wordAt (atw rc 1))).iput (atw a 1) next
      s.finish ((((t.iput (atw rc 1) notProcess).iput rc notProcess).normalMode c).noTail c).undefPoint)

/-- `unmkrc` (R429). -/
def execUnmkrc (s : State) : Out :=
  s.privileged (s.resourceArg s.r.areg fun c =>
    let rc := s.rc c
    let t := s.touch false (atw rc 1)
    if s.wordAt (atw rc 1) = notProcess then s.finish t.pop1
    else
      let t := t.iput (atw rc 1) notProcess
      match s.kind c with
      | .internal =>
        let t := t.touch false c
        s.finish (if s.wordAt c = resChanP then t.iput c notProcess else t).pop1
      | _ =>
        if s.vcp.mode = .resetting then .fault .vcpResetting
        else s.finish (t.normalMode c).pop1)

/-- `erdsq` (R430). -/
def execErdsq (s : State) : Out :=
  s.privileged (s.alignW s.r.areg fun a =>
    let t := ((s.touch false (atw a 1)).touch false (atw a 2)).iput (atw a 1) notProcess
    s.finish (t.setABC (s.wordAt (atw a 1)) (s.wordAt (atw a 2)) s.r.breg))

/-- `irdsq` (R431). -/
def execIrdsq (s : State) : Out :=
  s.privileged (s.alignW s.r.areg fun a =>
    if (s.r.breg ||| s.r.creg) &&& 3#32 ≠ 0#32 then .fault .resourceQueueAlignment
    else
      let old := s.wordAt (atw a 1)
      let t := (s.touch false (atw a 1)).iput (atw a 1) s.r.breg
      let t := if old = notProcess then (t.nowTail s.r.creg).iput (atw a 2) s.r.creg
        else (t.noTail s.r.creg).iput (s.rc s.r.creg) old
      s.finish t.undefStacks)

/-- A channel in resource mode is idle (R426). -/
def State.resourceIdle (s : State) (c : Word) : Bool :=
  match s.kind c with
  | .virt k _ => !(s.vlcb k).inp.queued
  | .event e _ => !(s.events.get e).queued
  | _ => s.wordAt c == resChanP

/-- What rc.Ptr of a channel is not defined to hold (R432): the channel is not in resource mode, is idle, or is the last of
its queue (log 19, DEDUCED). -/
def State.linkUndefined (s : State) (c : Word) : Bool :=
  s.wordAt (atw (s.rc c) 1) == notProcess || s.resourceIdle c || s.rcTails.contains c

/-- `ldresptr` (R432). -/
def execLdresptr (s : State) : Out :=
  s.privileged (s.resourceArg s.r.areg fun c =>
    let t := (s.touch false (s.rc c)).touch false (atw (s.rc c) 1)
    s.finish { t.setA (orFree (!s.linkUndefined c) (s.wordAt (s.rc c)) (s.drawn 0)) with draws := s.draws + 1 })

/-- `stresptr` (R433). -/
def execStresptr (s : State) : Out :=
  s.privileged (s.resourceArg s.r.areg fun c => s.finish (((s.noTail c).iput (s.rc c) s.r.breg).oneResult s.r.creg))

end Sys2Proof.Machine
end

