-- ==== Sys2Proof/Machine/Trap.lean ====
section
/-! DEFINITION. Trap: the meanings of the instructions of 44_protection_trap.md: protected mode, trap-handlers,
the error flags, system calls. `s` is the state with IptrReg at NextInst and EptrReg at the instruction. -/

namespace Sys2Proof.Machine

/-- The status saved in th.Cntl by an instruction; the save can hit the watched region (R486 (b)). -/
def State.saveControl (s : State) : State :=
  if s.r.th = notProcess then s else s.saveStatus.watchWrite s.r.th

/-- What a context instruction does (R455, R459, R468): a context trap where a single-step or watchpoint trap
would be due (R486 (b)), `t` being the state after its saving half, else `k` (log 43, DEDUCED). -/
def State.context (t : State) (k : Out) : Out :=
  if t.r.step || t.r.watch then t.explicitTrap .context etNoError t.r.watch else k

/-- An operand of a context instruction that is not aligned: Unalign, or, untrapped, no effect but that the
stacks are undefined (D44); of that the single-step trap at the end is t.Step, no context trap being taken (R486, log 43,
DEDUCED). -/
def State.contextAligned (s : State) (a : Word) (k : Out) : Out :=
  if a &&& 3#32 = 0#32 then k
  else if bitOf s.r.status sbUnalignTeBit then s.errTrap etUnalign
  else s.finish s.undefStacks

/-! ## Protected mode (R455 to R459) -/

/-- `goprot` (R455). Only the save of th.Cntl can set its watchpoint pending (R486 (b)): the store of pw.Iptr is not watched
(log 61, DEDUCED). -/
def execGoprot (s : State) : Out :=
  s.privileged (s.contextAligned (s.r.areg ||| s.r.breg)
    (let t := s.saveControl.mput (s.r.slot (-1)) s.r.iptr
     t.context
       (let d := s.r.breg
        let u := t.resumePds s.r.areg true
        let u := (((u.touch false d).touch false (atw d 1)).touch false (atw d 2)).touch false (atw d 3)
        let q : Quad Word := ⟨t.wordAt d, t.wordAt (atw d 1), t.wordAt (atw d 2), t.wordAt (atw d 3)⟩
        let u := u.noteIf (anyRegionsMeet q) (.refuse .regionDescriptor)
        { u with r := { u.r with wstub := s.r.wdesc, pstate := s.r.areg, region := q } }.done)))

/-- `restart` (R459). -/
def execRestart (s : State) : Out :=
  s.privileged (s.contextAligned s.r.areg
    (let t := s.saveControl
     t.context (t.resumePds s.r.areg false).done))

/-! ## Trap-handlers (R467 to R469) -/

/-- `tret` (R467) (log 39, DEDUCED). -/
def execTret (s : State) : Out :=
  s.privileged (s.check (s.r.th == notProcess)
    (let t := s.r.wptr
     let u := (s.touch false (atw t 2)).touch false t
     let f := s.wordAt (atw t 2)
     let u := if f = notProcess then u
       else
         let b := s.wordAt (atw t 3)
         let u := (u.touch false (atw t 3)).noteIf ((f ||| b) &&& 3#32 != 0#32) (.refuse .handlerQueue)
         (u.insertFront s.r.low f b).mput (atw t 2) notProcess
     let u := u.mput t (clearBit (u.wordAt t) 31)
     let u := { u with descheduled := u.descheduled.filter (· != t) }
     if s.r.areg = 0#32 then
       if s.descheduled.contains t then .fault .descheduledReturn else (u.returnL t).done
     else { u with intEnabled := true }.runNextProcess.done))

/-- `selth` (R468). -/
def execSelth (s : State) : Out :=
  s.privileged (s.contextAligned s.r.areg
    (let t := s.saveControl
     t.context
       (let h := s.r.areg
        let u := { t with r := { t.r with th := h } }
        if h = notProcess then (u.loadStatus h).undefPoint.done
        else if !bitOf (t.wordAt h) 31 then (u.loadStatus h).undefPoint.done
        else
          let u := (u.touch false h).mput (s.r.slot (-1)) s.r.iptr
          let u := (u.mput (s.r.slot (-3)) h).queueOnHandler h s.r.wptr
          { u with intEnabled := true }.runNextProcess.done)))

/-- `ldth` (R469). -/
def execLdth (s : State) : Out := s.privileged (s.finish (s.push s.r.th))

/-! ## Flags (R470, R471) -/

/-- `ldflags` (R470). -/
def execLdflags (s : State) : Out := s.finish (s.push (s.r.status &&& flagMask))

/-- `stflags` (R471). -/
def execStflags (s : State) : Out :=
  s.finish { s with
    r := { s.r with status := (s.r.status &&& ~~~ flagMask) ||| (s.r.areg &&& flagMask) } }.pop1

/-! ## Explicit traps (R472, R473) -/

/-- `syscall` (R472). -/
def execSyscall (s : State) : Out := s.explicitTrap .syscall etNoError false

/-- `causeerror` (R473). -/
def execCauseerror (s : State) : Out :=
  s.check (s.r.areg.ule 13#32) (s.explicitTrap .causeerror s.r.areg false)

end Sys2Proof.Machine
end

