-- ==== Sys2Proof/Machine/VcpInstr.lean ====
section
/-! DEFINITION. VcpInstr: the meanings of the instructions on virtual links and on external channels of
47_vcp_config.md (R651 to R662). `s` is the state with IptrReg at NextInst and EptrReg at the instruction. -/

namespace Sys2Proof.Machine

/-! ## Headers (R651 to R655) -/

/-- The checks of R650: the record of the virtual link of a channel address. -/
def State.vlcbArg (s : State) (ok : ChanKind → Bool) (k : Nat → Out) : Out :=
  s.channelArg s.r.areg ok fun c =>
    match s.kind c with
    | .virt n _ => if s.vcp.mode = .resetting then .fault .vcpResetting else k n
    | _ => .fault .channelDirection

/-- A virtual input channel. -/
def ChanKind.isVirtIn (k : ChanKind) : Bool :=
  match k with
  | .virt _ out => !out
  | _ => false

/-- `initvlcb` (R651), which takes the virtual link off the VCP's queues; the link number it leaves is any (R655), no header
offset is set (R653) (log 42, DEDUCED). -/
def execInitvlcb (s : State) : Out :=
  s.privileged (s.alignW s.r.breg fun b => s.vlcbArg ChanKind.isVirt fun k =>
    let v : Vlcb := { (s.vlcb k) with
      null := true, link := (s.drawn 0).setWidth 2, offset := nullOffset, buffer := b, held := none
      inp := ChanEnd.init, out := ChanEnd.init }
    s.finish ((({ s with draws := s.draws + 1 }.unqueue k true true).setVlcb k v).oneResult s.r.creg))

/-- A channel end is in use: by a process, or `stopch` is stopping it. -/
def ChanEnd.busy (e : ChanEnd) : Bool := e.state != .empty || e.stopping

/-- A message is in progress on a virtual link while a channel of it is active (R652, 93 section 1.6). -/
def Vlcb.busy (v : Vlcb) : Bool :=
  (v.inp.active || v.out.active) && (v.inp.busy || v.out.busy || v.held.isSome)

/-- `sethdr` (R652, D54). -/
def execSethdr (s : State) : Out :=
  s.privileged (s.vlcbArg ChanKind.isVirt fun k =>
    let v := s.vlcb k
    if s.r.breg.ule 3#32 then
      let link : BitVec 2 := s.r.breg.setWidth 2
      let null := v.null && !Config.nullClearedBySethdr
      s.check (s.r.creg.ule 0xFFFE#32 || s.r.creg == nullOffset)
        (if v.busy && v.link != link then .fault .headerInUse
         else if s.r.creg = nullOffset then s.finish (s.setVlcb k { v with link := link, null := null }).undefStack
         else s.finish (s.setVlcb k { v with link := link, null := null, offset := s.r.creg }).undefStack)
    else
      s.check (s.r.breg == nullHeader && !v.inp.active && !v.out.active)
        (s.finish (s.setVlcb k { v with null := true }).undefStack))

/-- Where a long header lies (R641). -/
def State.headerAddr (s : State) (v : Vlcb) : Word := s.conf.hdrAreaBase + 4#32 * v.offset

/-- Bytes written by an instruction that only an L-process can execute. -/
def State.iputBytes (s : State) (a : Word) : List Byte → State
  | [] => s
  | b :: bs => State.iputBytes (s.iputByte a b) (a + 1) bs

/-- Bytes copied from byte `i` of `bs` to the place of byte `i` at `a`, from where an interrupted instruction goes on, Ereg
holding how many are done; where an agent comes between before the last of them the instruction is suspended (R653,
R654; log 29, DESIGN CHOICE). -/
def State.copyBytes (s : State) (a : Word) (bs : List Byte) (k : State → Out) : Out :=
  let i := if s.resuming then Nat.min s.r.ereg.toNat bs.length else 0
  let put (m : Nat) : State := s.iputBytes (a + BitVec.ofNat 32 i) ((bs.drop i).take m)
  match s.cpuMode with
  | .part m => if i + m < bs.length then ((put m).suspended (BitVec.ofNat 32 (i + m))).done else k (put bs.length)
  | _ => k (put bs.length)

/-- `writehdr` (R653, D54). The bytes of a short header go to the record at the end. -/
def execWritehdr (s : State) : Out :=
  s.privileged (s.vlcbArg ChanKind.isVirt fun k =>
    let v := s.vlcb k
    let null := v.null && Config.nullClearedBySethdr
    s.check (s.r.breg != 0#32 && s.r.breg.ule 0xFF#32)
      (let n := s.r.breg.toNat
       let t := s.touchBytes false s.r.creg n
       let bs := s.mem.bytes s.r.creg n
       if n ≤ 3 then
         match s.cpuMode with
         | .part m =>
           if m < n then t.suspendedFree.done else s.finish (execWritehdr.shortHeader t k v null bs).undefStack
         | _ => s.finish (execWritehdr.shortHeader t k v null bs).undefStack
       else
         s.check (v.offset != nullOffset)
           (t.copyBytes (s.headerAddr v) bs fun u =>
             s.finish (u.setVlcb k { v with null := null, hlen := s.r.breg.setWidth 8 }).undefStack)))
where
  /-- A short header in the record. -/
  shortHeader (t : State) (k : Nat) (v : Vlcb) (null : Bool) (bs : List Byte) : State :=
    t.setVlcb k { v with
      null := null, hlen := BitVec.ofNat 8 bs.length, h0 := bs.getD 0 v.h0, h1 := bs.getD 1 v.h1, h2 := bs.getD 2 v.h2 }

/-- `readhdr` (R654). -/
def execReadhdr (s : State) : Out :=
  s.privileged (s.vlcbArg ChanKind.isVirt fun k =>
    let v := s.vlcb k
    s.check (!v.null && s.r.breg == v.hlen.setWidth 32)
      (let n := v.hlen.toNat
       let t := if n ≤ 3 then s else s.touchBytes false (s.headerAddr v) n
       t.copyBytes s.r.creg (s.headerBytes v) fun u => s.finish u.undefStack))

/-- `insphdr` (R655). -/
def execInsphdr (s : State) : Out :=
  s.privileged (s.vlcbArg ChanKind.isVirt fun k =>
    let v := s.vlcb k
    let link : Word := v.link.setWidth 32
    if v.null then s.finish (s.setABC link nullHeader nullOffset)
    else if 3 < v.hlen.toNat then s.finish (s.setABC link (v.hlen.setWidth 32) v.offset)
    else s.finish (s.setABC link (v.hlen.setWidth 32) nullOffset))

/-! ## Packet buffers (R656, R657) -/

/-- `swapbfr` (R656). A packet that the buffer holds is not copied: the record goes on saying that one is held (log 75,
DEDUCED). -/
def execSwapbfr (s : State) : Out :=
  s.privileged (s.alignW s.r.breg fun b => s.vlcbArg ChanKind.isVirtIn fun k =>
    let v := s.vlcb k
    s.finish ((s.setVlcb k { v with buffer := b }).dyadic v.buffer))

/-- `readbfr` (R657). -/
def execReadbfr (s : State) : Out :=
  s.privileged (s.vlcbArg ChanKind.isVirtIn fun k =>
    let v := s.vlcb k
    match v.held with
    | none => s.finish (s.setABC v.buffer 0#32 0#32)
    | some (n, last) => s.finish (s.setABC v.buffer (BitVec.ofNat 32 n) (if last then 1#32 else 2#32)))

/-! ## Activation (R661) -/

/-- What is held of an activated virtual channel end (43_channels_alt.md R388): the process whose schedule is held runs, and
so do those that `stopch` has kept waiting, unless the channel is still stopping. After a Stop they stay held (R698). -/
def State.runHeld (s : State) (e : ChanEnd) : ChanEnd × State :=
  if s.holding then (e, s)
  else
    let t := s.scheduleAll e.pendingSchedule.toList
    let e := { e with pendingSchedule := none }
    if e.stopping then (e, t) else t.runStoppers e

/-- A virtual channel is activated and its pending actions are performed (R661, 43_channels_alt.md R388); what a packet in
the buffer leads to the VCP goes on to do (`State.vcpServe`). -/
def State.activateVirt (s : State) (k : Nat) (out : Bool) : State :=
  let v := s.vlcb k
  let e := if out then v.out else v.inp
  let t := match e.pendingPacket with
    | some low => if out then s.queueData v.link.toNat k low else s.queueAck v.link.toNat k low
    | none => s
  let (e, t) := t.runHeld { e with active := true, pendingPacket := none }
  t.setVlcb k (if out then { v with out := e } else { v with inp := e })

/-- An event channel is activated (R661, R440): the other word of the pair empties and what was held happens. A stopping VCP
does not do it (R643), and after a Stop nothing held happens (R698; log 57, DESIGN CHOICE). -/
def State.activateEvent (s : State) (c : Word) (e : Nat) (out : Bool) : State :=
  if s.vcp.mode = .stopping then s
  else
    let t := (s.aput (c ^^^ 4#32) notProcess).touchPair e
    let p := t.events.get e
    if t.holding then t
    else if out then t.eventOutputServe e
    else (t.setPair e { p with outLevel := p.outLevel && p.inLevel }).eventMeet e

/-- The physical link of a byte-stream channel is started or reset, its buffers then being empty (R649). -/
def State.switchLink (s : State) (n : Nat) (on : Bool) : State :=
  let l := s.links.get (byteLink n)
  let t := { s with links := s.links.set (byteLink n) (if on then l.startEngine else l.resetEngine) }
  if on then t else t.emptyLink (byteLink n)

/-- An external channel. -/
def ChanKind.external (k : ChanKind) : Bool := k != .internal && k != .invalid

/-- `setchmode` (R661). Of an event or byte-stream channel it is performed also while the VCP is resetting, with which
93_implementation_defined.md section 1.6 advises to refuse any interaction (log 57, DESIGN CHOICE). -/
def execSetchmode (s : State) : Out :=
  s.privileged (s.channelArg s.r.areg ChanKind.external fun c =>
    s.check (s.r.breg.ult 2#32)
      (let on := s.r.breg == 1#32
       match s.kind c with
       | .virt k out =>
         let v := s.vlcb k
         if s.vcp.mode = .resetting then .fault .vcpResetting
         else if on then
           s.check (!v.null)
             (s.finish ((if s.vcp.mode = .stopping then s else s.activateVirt k out).oneResult s.r.creg))
         else if out then s.finish ((s.setVlcb k { v with out := { v.out with active := false } }).oneResult s.r.creg)
         else s.finish ((s.setVlcb k { v with inp := { v.inp with active := false } }).oneResult s.r.creg)
       | .event e out =>
         if on then s.finish ((s.activateEvent c e out).oneResult s.r.creg)
         else s.finish ((s.aput (c ^^^ 4#32) deactivatedP).oneResult s.r.creg)
       | .byteStream n => s.finish ((s.switchLink n on).oneResult s.r.creg)
       | _ => .fault .channelDirection))

/-! ## Status (R662) -/

/-- A status word with some bits any value. -/
abbrev statusWord (known undefined free : Word) : Word := (known &&& ~~~ undefined) ||| (free &&& undefined)

/-- A schedule is held at a channel end. -/
def ChanEnd.scheduleHeld (e : ChanEnd) : Bool := e.pendingSchedule.isSome || (!e.stopping && !e.stoppers.isEmpty)

/-- The status of a virtual channel end. -/
def ChanEnd.status (e : ChanEnd) : Word :=
  boolWord e.active ||| (boolWord e.stopping <<< 1) ||| (boolWord e.resource <<< 3) |||
    (boolWord e.pendingPacket.isSome <<< 4) ||| (boolWord e.scheduleHeld <<< 5) ||| 0x80000000#32

/-- `ldchstatus` of a virtual channel. -/
def State.virtStatus (s : State) (c : Word) (e : ChanEnd) : State :=
  let a := statusWord e.status 0x7FFFFFC4#32 (s.drawn 0)
  let t := { s with draws := s.draws + 2 }
  if e.stopping then t.setABC a notProcess (s.drawn 1)
  else if e.resource then
    ((t.touch false (s.rc c)).touch false (atw (s.rc c) 1)).setABC a (s.wordAt (s.rc c)) (s.wordAt (atw (s.rc c) 1))
  else t.setABC a e.user (s.drawn 1)

/-- What is held while an event channel is deactivated (R388, R440): of an input, the end of a communication whose event
has come; of an output, EventOut, or the end of a communication whose acknowledge has come (log 20, DEDUCED). -/
def State.eventHeld (s : State) (e : Nat) (out : Bool) : Bool × Bool :=
  let p := s.events.get e
  if out then (s.eventOutputter e != notProcess && (p.acked || !p.outLevel), p.acked)
  else (p.ready, p.ready && processOf (s.wordAt (eventWord e)) != notProcess)

/-- `ldchstatus` of an event channel. -/
def State.eventStatus (s : State) (c : Word) (e : Nat) (out : Bool) : State :=
  let active := s.wordAt (c ^^^ 4#32) != deactivatedP
  let rc := s.rc c
  let resource := !out && s.wordAt (atw rc 1) != notProcess
  let held := s.eventHeld e out
  let known := boolWord active ||| (boolWord resource <<< 3) ||| (boolWord (!active && held.1) <<< 4) |||
    (boolWord (!active && held.2) <<< 5)
  let a := statusWord known 0x7FFFFFC4#32 (s.drawn 0)
  let t := { s.touchPair e with draws := s.draws + 2 }
  let t := if out then t else (t.touch false rc).touch false (atw rc 1)
  if resource then t.setABC a (s.wordAt rc) (s.wordAt (atw rc 1))
  else t.setABC a (processOf (s.wordAt c)) (s.drawn 1)

/-- `ldchstatus` of a byte-stream channel. -/
def State.byteStatus (s : State) (c : Word) (n : Nat) : State :=
  let l := s.links.get (byteLink n)
  let known := boolWord (l.parityError || l.discError) ||| (boolWord l.parityError <<< 3) ||| (boolWord l.discError <<< 4)
  let t := { s.agentTouch false c with draws := s.draws + 2 }
  t.setABC (statusWord known 0x7FFFFFE6#32 (s.drawn 0)) (processOf (s.wordAt c)) (s.drawn 1)

/-- `ldchstatus` (R662). -/
def execLdchstatus (s : State) : Out :=
  s.privileged (s.channelArg s.r.areg ChanKind.external fun c =>
    match s.kind c with
    | .virt k out =>
      if s.vcp.mode = .resetting then .fault .vcpResetting
      else s.finish (s.virtStatus c (if out then (s.vlcb k).out else (s.vlcb k).inp))
    | .event e out => s.finish (s.eventStatus c e out)
    | .byteStream n => s.finish (s.byteStatus c n)
    | _ => .fault .channelDirection)

end Sys2Proof.Machine
end

