-- ==== Sys2Proof/Machine/Dispatch.lean ====
section
/-! DEFINITION. Dispatch: one arm per constructor of Instr, each one call of its meaning. -/

namespace Sys2Proof.Machine

/-- What an instruction does. -/
def exec (i : Instr) (s : State) : Host.Outcome State Fault Refusal :=
  match i with
  | .j n => Sys2Proof.Machine.execJ n s
  | .ldlp n => Sys2Proof.Machine.execLdlp n s
  | .pfix d => Sys2Proof.Machine.execPfix d s
  | .ldnl n => Sys2Proof.Machine.execLdnl n s
  | .ldc n => Sys2Proof.Machine.execLdc n s
  | .ldnlp n => Sys2Proof.Machine.execLdnlp n s
  | .nfix d => Sys2Proof.Machine.execNfix d s
  | .ldl n => Sys2Proof.Machine.execLdl n s
  | .adc n => Sys2Proof.Machine.execAdc n s
  | .call n => Sys2Proof.Machine.execCall n s
  | .cj n => Sys2Proof.Machine.execCj n s
  | .ajw n => Sys2Proof.Machine.execAjw n s
  | .eqc n => Sys2Proof.Machine.execEqc n s
  | .stl n => Sys2Proof.Machine.execStl n s
  | .stnl n => Sys2Proof.Machine.execStnl n s
  | .opr code => Sys2Proof.Machine.execOpr code s
  | .ldprodid => Sys2Proof.Machine.execLdprodid s
  | .nop => Sys2Proof.Machine.execNop s
  | .fdca => Sys2Proof.Machine.execFdca s
  | .ica => Sys2Proof.Machine.execIca s
  | .fdcl => Sys2Proof.Machine.execFdcl s
  | .icl => Sys2Proof.Machine.execIcl s
  | .devmove => Sys2Proof.Machine.execDevmove s
  | .ldresptr => Sys2Proof.Machine.execLdresptr s
  | .stresptr => Sys2Proof.Machine.execStresptr s
  | .erdsq => Sys2Proof.Machine.execErdsq s
  | .irdsq => Sys2Proof.Machine.execIrdsq s
  | .mkrc => Sys2Proof.Machine.execMkrc s
  | .unmkrc => Sys2Proof.Machine.execUnmkrc s
  | .restart => Sys2Proof.Machine.execRestart s
  | .causeerror => Sys2Proof.Machine.execCauseerror s
  | .stmove2dinit => Sys2Proof.Machine.execStmove2dinit s
  | .grant => Sys2Proof.Machine.execGrant s
  | .enbg => Sys2Proof.Machine.execEnbg s
  | .disg => Sys2Proof.Machine.execDisg s
  | .readhdr => Sys2Proof.Machine.execReadhdr s
  | .writehdr => Sys2Proof.Machine.execWritehdr s
  | .initvlcb => Sys2Proof.Machine.execInitvlcb s
  | .setchmode => Sys2Proof.Machine.execSetchmode s
  | .sethdr => Sys2Proof.Machine.execSethdr s
  | .swapbfr => Sys2Proof.Machine.execSwapbfr s
  | .vin => Sys2Proof.Machine.execVin s
  | .vout => Sys2Proof.Machine.execVout s
  | .stopch => Sys2Proof.Machine.execStopch s
  | .swapqueue => Sys2Proof.Machine.execSwapqueue s
  | .swaptimer => Sys2Proof.Machine.execSwaptimer s
  | .insertqueue => Sys2Proof.Machine.execInsertqueue s
  | .timeslice => Sys2Proof.Machine.execTimeslice s
  | .signal => Sys2Proof.Machine.execSignal s
  | .wait => Sys2Proof.Machine.execWait s
  | .syscall => Sys2Proof.Machine.execSyscall s
  | .selth => Sys2Proof.Machine.execSelth s
  | .goprot => Sys2Proof.Machine.execGoprot s
  | .tret => Sys2Proof.Machine.execTret s
  | .ldshadow => Sys2Proof.Machine.execLdshadow s
  | .stshadow => Sys2Proof.Machine.execStshadow s
  | .fpldall => Sys2Proof.Machine.execFpldall s
  | .fpstall => Sys2Proof.Machine.execFpstall s
  | .rev => Sys2Proof.Machine.execRev s
  | .lb => Sys2Proof.Machine.execLb s
  | .bsub => Sys2Proof.Machine.execBsub s
  | .endp => Sys2Proof.Machine.execEndp s
  | .diff => Sys2Proof.Machine.execDiff s
  | .add => Sys2Proof.Machine.execAdd s
  | .gcall => Sys2Proof.Machine.execGcall s
  | .input => Sys2Proof.Machine.execInput s
  | .prod => Sys2Proof.Machine.execProd s
  | .gt => Sys2Proof.Machine.execGt s
  | .wsub => Sys2Proof.Machine.execWsub s
  | .output => Sys2Proof.Machine.execOutput s
  | .sub => Sys2Proof.Machine.execSub s
  | .startp => Sys2Proof.Machine.execStartp s
  | .outbyte => Sys2Proof.Machine.execOutbyte s
  | .outword => Sys2Proof.Machine.execOutword s
  | .resetch => Sys2Proof.Machine.execResetch s
  | .csub0 => Sys2Proof.Machine.execCsub0 s
  | .stopp => Sys2Proof.Machine.execStopp s
  | .ladd => Sys2Proof.Machine.execLadd s
  | .norm => Sys2Proof.Machine.execNorm s
  | .ldiv => Sys2Proof.Machine.execLdiv s
  | .ldpi => Sys2Proof.Machine.execLdpi s
  | .xdble => Sys2Proof.Machine.execXdble s
  | .ldpri => Sys2Proof.Machine.execLdpri s
  | .rem => Sys2Proof.Machine.execRem s
  | .ret => Sys2Proof.Machine.execRet s
  | .lend => Sys2Proof.Machine.execLend s
  | .ldtimer => Sys2Proof.Machine.execLdtimer s
  | .testpranal => Sys2Proof.Machine.execTestpranal s
  | .tin => Sys2Proof.Machine.execTin s
  | .div => Sys2Proof.Machine.execDiv s
  | .dist => Sys2Proof.Machine.execDist s
  | .disc => Sys2Proof.Machine.execDisc s
  | .diss => Sys2Proof.Machine.execDiss s
  | .lmul => Sys2Proof.Machine.execLmul s
  | .not => Sys2Proof.Machine.execNot s
  | .xor => Sys2Proof.Machine.execXor s
  | .bcnt => Sys2Proof.Machine.execBcnt s
  | .lshr => Sys2Proof.Machine.execLshr s
  | .lshl => Sys2Proof.Machine.execLshl s
  | .lsum => Sys2Proof.Machine.execLsum s
  | .lsub => Sys2Proof.Machine.execLsub s
  | .runp => Sys2Proof.Machine.execRunp s
  | .xword => Sys2Proof.Machine.execXword s
  | .sb => Sys2Proof.Machine.execSb s
  | .gajw => Sys2Proof.Machine.execGajw s
  | .wcnt => Sys2Proof.Machine.execWcnt s
  | .shr => Sys2Proof.Machine.execShr s
  | .shl => Sys2Proof.Machine.execShl s
  | .mint => Sys2Proof.Machine.execMint s
  | .alt => Sys2Proof.Machine.execAlt s
  | .altwt => Sys2Proof.Machine.execAltwt s
  | .altend => Sys2Proof.Machine.execAltend s
  | .and => Sys2Proof.Machine.execAnd s
  | .enbt => Sys2Proof.Machine.execEnbt s
  | .enbc => Sys2Proof.Machine.execEnbc s
  | .enbs => Sys2Proof.Machine.execEnbs s
  | .move => Sys2Proof.Machine.execMove s
  | .or => Sys2Proof.Machine.execOr s
  | .csngl => Sys2Proof.Machine.execCsngl s
  | .ccnt1 => Sys2Proof.Machine.execCcnt1 s
  | .talt => Sys2Proof.Machine.execTalt s
  | .ldiff => Sys2Proof.Machine.execLdiff s
  | .taltwt => Sys2Proof.Machine.execTaltwt s
  | .sum => Sys2Proof.Machine.execSum s
  | .mul => Sys2Proof.Machine.execMul s
  | .sttimer => Sys2Proof.Machine.execSttimer s
  | .cword => Sys2Proof.Machine.execCword s
  | .dup => Sys2Proof.Machine.execDup s
  | .move2dinit => Sys2Proof.Machine.execMove2dinit s
  | .move2dall => Sys2Proof.Machine.execMove2dall s
  | .move2dnonzero => Sys2Proof.Machine.execMove2dnonzero s
  | .move2dzero => Sys2Proof.Machine.execMove2dzero s
  | .gtu => Sys2Proof.Machine.execGtu s
  | .fmul => Sys2Proof.Machine.execFmul s
  | .crcword => Sys2Proof.Machine.execCrcword s
  | .crcbyte => Sys2Proof.Machine.execCrcbyte s
  | .bitcnt => Sys2Proof.Machine.execBitcnt s
  | .bitrevword => Sys2Proof.Machine.execBitrevword s
  | .bitrevnbits => Sys2Proof.Machine.execBitrevnbits s
  | .pop => Sys2Proof.Machine.execPop s
  | .ldmemstartval => Sys2Proof.Machine.execLdmemstartval s
  | .wsubdb => Sys2Proof.Machine.execWsubdb s
  | .fpldnldbi => Sys2Proof.Machine.execFpldnldbi s
  | .fpstnldb => Sys2Proof.Machine.execFpstnldb s
  | .fpldnlsni => Sys2Proof.Machine.execFpldnlsni s
  | .fpadd => Sys2Proof.Machine.execFpadd s
  | .fpstnlsn => Sys2Proof.Machine.execFpstnlsn s
  | .fpsub => Sys2Proof.Machine.execFpsub s
  | .fpldnldb => Sys2Proof.Machine.execFpldnldb s
  | .fpmul => Sys2Proof.Machine.execFpmul s
  | .fpdiv => Sys2Proof.Machine.execFpdiv s
  | .fprange => Sys2Proof.Machine.execFprange s
  | .fpldnlsn => Sys2Proof.Machine.execFpldnlsn s
  | .fpnan => Sys2Proof.Machine.execFpnan s
  | .fpordered => Sys2Proof.Machine.execFpordered s
  | .fpnotfinite => Sys2Proof.Machine.execFpnotfinite s
  | .fpgt => Sys2Proof.Machine.execFpgt s
  | .fpeq => Sys2Proof.Machine.execFpeq s
  | .fpi32tor32 => Sys2Proof.Machine.execFpi32tor32 s
  | .fpge => Sys2Proof.Machine.execFpge s
  | .fpi32tor64 => Sys2Proof.Machine.execFpi32tor64 s
  | .fpb32tor64 => Sys2Proof.Machine.execFpb32tor64 s
  | .fplg => Sys2Proof.Machine.execFplg s
  | .fprtoi32 => Sys2Proof.Machine.execFprtoi32 s
  | .fpstnli32 => Sys2Proof.Machine.execFpstnli32 s
  | .fpldzerosn => Sys2Proof.Machine.execFpldzerosn s
  | .fpldzerodb => Sys2Proof.Machine.execFpldzerodb s
  | .fpint => Sys2Proof.Machine.execFpint s
  | .fpdup => Sys2Proof.Machine.execFpdup s
  | .fprev => Sys2Proof.Machine.execFprev s
  | .fpldnladddb => Sys2Proof.Machine.execFpldnladddb s
  | .fpldnlmuldb => Sys2Proof.Machine.execFpldnlmuldb s
  | .fpldnladdsn => Sys2Proof.Machine.execFpldnladdsn s
  | .fpldnlmulsn => Sys2Proof.Machine.execFpldnlmulsn s
  | .settimeslice => Sys2Proof.Machine.execSettimeslice s
  | .ldflags => Sys2Proof.Machine.execLdflags s
  | .stflags => Sys2Proof.Machine.execStflags s
  | .xbword => Sys2Proof.Machine.execXbword s
  | .lbx => Sys2Proof.Machine.execLbx s
  | .cb => Sys2Proof.Machine.execCb s
  | .cbu => Sys2Proof.Machine.execCbu s
  | .insphdr => Sys2Proof.Machine.execInsphdr s
  | .readbfr => Sys2Proof.Machine.execReadbfr s
  | .ldconf => Sys2Proof.Machine.execLdconf s
  | .stconf => Sys2Proof.Machine.execStconf s
  | .ldcnt => Sys2Proof.Machine.execLdcnt s
  | .ssub => Sys2Proof.Machine.execSsub s
  | .ldth => Sys2Proof.Machine.execLdth s
  | .ldchstatus => Sys2Proof.Machine.execLdchstatus s
  | .intdis => Sys2Proof.Machine.execIntdis s
  | .intenb => Sys2Proof.Machine.execIntenb s
  | .cir => Sys2Proof.Machine.execCir s
  | .ss => Sys2Proof.Machine.execSs s
  | .chantype => Sys2Proof.Machine.execChantype s
  | .ls => Sys2Proof.Machine.execLs s
  | .ciru => Sys2Proof.Machine.execCiru s
  | .fprem => Sys2Proof.Machine.execFprem s
  | .fprn => Sys2Proof.Machine.execFprn s
  | .fpdivby2 => Sys2Proof.Machine.execFpdivby2 s
  | .fpmulby2 => Sys2Proof.Machine.execFpmulby2 s
  | .fpsqrt => Sys2Proof.Machine.execFpsqrt s
  | .fprp => Sys2Proof.Machine.execFprp s
  | .fprm => Sys2Proof.Machine.execFprm s
  | .fprz => Sys2Proof.Machine.execFprz s
  | .fpr32tor64 => Sys2Proof.Machine.execFpr32tor64 s
  | .fpr64tor32 => Sys2Proof.Machine.execFpr64tor32 s
  | .fpexpdec32 => Sys2Proof.Machine.execFpexpdec32 s
  | .fpexpinc32 => Sys2Proof.Machine.execFpexpinc32 s
  | .fpabs => Sys2Proof.Machine.execFpabs s
  | .fpadddbsn => Sys2Proof.Machine.execFpadddbsn s
  | .fpchki32 => Sys2Proof.Machine.execFpchki32 s
  | .fpchki64 => Sys2Proof.Machine.execFpchki64 s
  | .devlb => Sys2Proof.Machine.execDevlb s
  | .devsb => Sys2Proof.Machine.execDevsb s
  | .devls => Sys2Proof.Machine.execDevls s
  | .devss => Sys2Proof.Machine.execDevss s
  | .devlw => Sys2Proof.Machine.execDevlw s
  | .devsw => Sys2Proof.Machine.execDevsw s
  | .xsword => Sys2Proof.Machine.execXsword s
  | .lsx => Sys2Proof.Machine.execLsx s
  | .cs => Sys2Proof.Machine.execCs s
  | .csu => Sys2Proof.Machine.execCsu s
  | .lddevid => Sys2Proof.Machine.execLddevid s

end Sys2Proof.Machine
end

