-- ==== Sys2Proof/Machine/Cpu.lean ====
section
/-! DEFINITION. Cpu: how the CPU takes one step: fetching and decoding an instruction and running it, or what is
due in its place (30_encoding.md R143, 42_process_sched.md R328, R338, R352; 60_exceptions.md R709). -/

namespace Sys2Proof.Machine

/-- What fetching some bytes answers: the bytes, an address a P-process may not fetch, one nothing decodes, or
one the spec gives no meaning to. -/
inductive Fetched where
  | bytes (bs : List Byte)
  | violation (a : Word)
  | illegal (p : Word)
  | stop (f : Fault)
  deriving DecidableEq, Repr

/-- One more byte in front of what was fetched after it. -/
def Fetched.after (b : Byte) : Fetched → Fetched
  | .bytes bs => .bytes (b :: bs)
  | f => f

/-- The code byte at a physical address: the byte in memory or, where the word has been stored to since the last
taken transfer of control, any value it has held since (70_reset_and_hazards.md R805) (log 22, DESIGN CHOICE). -/
def State.codeByte (s : State) (p : Word) : Byte :=
  match (s.prefetch.filter fun e => e.1 == (wordAddr p).toNat).map Prod.snd with
  | [] => s.byteAt p
  | olds =>
    let bytes := s.byteAt p :: olds.map fun w => byteOf w (p &&& 3#32).toNat
    bytes.getD (Config.staleFetch s.draws p.toNat % bytes.length) (s.byteAt p)

/-- The bytes of the instruction at an address, at most `n`: up to the first byte that is not prefixing (R134,
R143), each translated (20_memory.md R122). -/
def State.fetchFrom (s : State) : Nat → Word → Fetched
  | 0, _ => .bytes []
  | n + 1, a =>
    match s.r.translate false .fetch a with
    | .violation => .violation a
    | .invalid => .stop .regionDescriptor
    | .ok p =>
      if s.inVlcb p then .stop .vlcbMemory
      else if !s.legal false false p then .illegal p
      else if isPrefixing (s.codeByte p) then (State.fetchFrom s n (a + 1#32)).after (s.codeByte p)
      else .bytes [s.codeByte p]

/-- The bytes one step fetches at most: the longest instruction of the assembler (R141). -/
abbrev fetchLimit : Nat := 8

/-- The bytes at the instruction pointer. -/
def State.fetched (s : State) : Fetched := s.fetchFrom fetchLimit s.r.iptr

/-- The read misses of fetching `n` bytes from a logical address on (20_memory.md R106). -/
def State.fetchMisses (s : State) (a : Word) : Nat → State
  | 0 => s
  | n + 1 => (s.readMiss (s.r.place false .fetch a)).fetchMisses (a + 1#32) n

/-- The state in which an instruction of `n` bytes runs: IptrReg at NextInst, EptrReg at its first byte
(60_exceptions.md R731), Oreg zero. Where an interrupted instruction is executed again, it goes on with it (R290). -/
def State.atInstr (s : State) (n : Nat) : State :=
  { s.fetchMisses s.r.iptr n with
    r := { s.r with
      iptr := s.r.iptr + BitVec.ofNat 32 n
      eptr := if s.inChain then s.r.eptr else s.r.iptr
      midInstr := false }
    oreg := 0#32
    inChain := false
    resuming := s.r.midInstr
    draws := if s.prefetch.isEmpty then s.draws else s.draws + 1 }

/-- A component of a prefix sequence keeps Oreg until the sequence ends. -/
def State.keepOreg (s : State) (i : Instr) (t : State) : State :=
  match i with
  | .pfix _ => { t with oreg := s.oreg }
  | .nfix _ => { t with oreg := s.oreg }
  | _ => t

/-- Fetch, decode and run. -/
def State.runInstr (s : State) : Out :=
  match s.fetched with
  | .violation a =>
    { s with r := { s.r with iptr := a, eptr := a, midInstr := false }, oreg := 0#32, inChain := false }.errTrap etAccessViolation
  | .illegal p => (s.note (.illegal p)).done
  | .stop f => .fault f
  | .bytes bs =>
    match decodeWith s.oreg bs with
    | .ok (i, rest) => exec i (s.keepOreg i (s.atInstr (bs.length - rest.length)))
    | .error _ => .next s

/-- An idle processor has a process to run. -/
def State.workReady (s : State) : Bool :=
  s.ctl.gross == .running && (s.hi.fptr != notProcess || s.lo.fptr != notProcess || s.shadowValid)

/-- The CPU moves: in the middle of a prefix sequence it goes on; between instructions an interrupt, the
dispatch of an idle processor or a P-process's timeslice trap comes first. -/
def State.cpuStep (s : State) : Out :=
  if !s.cpuRuns then .next s
  else if s.inChain then s.runInstr
  else if s.interruptDue then s.takeInterrupt.done
  else if s.r.idle then (if s.workReady then s.runNextProcess.done else .next s)
  else if s.r.isP && s.timesliceDue then s.timesliceTrap (s.r.midInstr && s.r.step)
  else s.runInstr

/-- What moves next (log 6, DESIGN CHOICE): the refill engine where a line has been fetched and has no row (20_memory.md
R106), or else the CPU inside a prefix sequence, or else what the agenda says; an empty agenda means the CPU. -/
def State.move (s : State) : Out :=
  if s.cache.waiting then s.placeLine.done
  else if s.inChain then { s with cpuMode := .whole }.cpuStep
  else match s.agenda with
    | [] => { s with cpuMode := .whole }.cpuStep
    | .cpu m :: es => { s with agenda := es, cpuMode := m }.cpuStep
    | e :: es => ({ s with agenda := es }.agentStep e).done

/-! ## A program placed (log 9, DESIGN CHOICE) -/

/-- The bytes an instruction of the opcode table is placed as: a prefixing component alone is followed by more
of them, so that one fetch does not complete it (log 47, DEDUCED). -/
def placedBytes (nbits w : Nat) : List Byte :=
  let bs := tableBytes nbits w
  if bs.all isPrefixing then bs ++ List.replicate (fetchLimit - bs.length) 0x20#8
  else bs ++ List.replicate (fetchLimit - bs.length) 0#8

/-- The CPU fetches from physical memory at its instruction pointer. -/
def State.canFetch (s : State) : Bool :=
  s.cpuRuns && !s.r.idle && !s.r.isP &&
    (List.range fetchLimit).all fun j =>
      s.legal false false (s.r.iptr + BitVec.ofNat 32 j) && !s.inVlcb (s.r.iptr + BitVec.ofNat 32 j)

/-- The CPU started in on-chip RAM as a `Run` of the control link starts it (70_reset_and_hazards.md R780). -/
def State.startedInRam (s : State) : State :=
  { s with
    r := { s.r with
      wdesc := 0x80001000#32, iptr := 0x80000400#32, status := defaultControl, th := notProcess, midInstr := false }
    cache := { s.cache with ramSize := 0#2, locked := [], lines := [] }
    vcp := { s.vcp with vlcbs := [] }
    ctl := { s.ctl with gross := .running } }

/-- The state whose next step runs the instruction of a word of the opcode table. -/
def State.placeInstr (s : State) (nbits w : Nat) : State :=
  let t := if s.canFetch then s else s.startedInRam
  { t with
    r := { t.r with midInstr := false }
    mem := t.mem.writeBytes t.r.iptr (placedBytes nbits w)
    cache := if t.cache.waiting then { t.cache with lines := [] } else t.cache
    hi := if t.interruptDue then { t.hi with fptr := notProcess } else t.hi
    oreg := 0#32
    inChain := false
    prefetch := []
    agenda := []
    trouble := none }

end Sys2Proof.Machine
end

