-- ==== Sys2Proof/Machine/Step.lean ====
section
/-! DEFINITION. Step: one step of the machine. -/

namespace Sys2Proof.Machine

/-- One step: one agent moves (00_scope.md R18). -/
def step (s : State) : Host.Outcome State Fault Refusal := s.move

/-- The state whose next step fetches and runs the instruction of a word of the opcode table. -/
def State.withFetchWord (s : State) (nbits w : Nat) : State := s.placeInstr nbits w

end Sys2Proof.Machine
end

