-- ==== Sys2Proof/Safety.lean ====
section
/-! DEFINITION. Safety: the terms in which claims are made: a state in which nothing but the instruction itself
happens, an address an access reaches, and what an instruction leaves alone. -/

namespace Sys2Proof.Machine

/-! ## When an instruction ends normally (60_exceptions.md R718) -/

/-- Nothing is due at the end of an instruction: no single step, no pending watchpoint, no timeslice of a
P-process; and no mechanism has run into trouble (it never has between steps). -/
abbrev State.calm (s : State) : Prop :=
  s.trouble = none ∧ s.r.step = false ∧ s.r.watch = false ∧ (s.r.isP = true → s.timesliceDue = false)

/-- An L-process in a calm state whose next step is a whole instruction from its start, errors included
(60_exceptions.md R735 excluded), and no watchpoint enabled. -/
abbrev State.plain (s : State) : Prop :=
  s.calm ∧ s.r.isP = false ∧ s.cpuMode = .whole ∧ s.resuming = false ∧ bitOf s.r.status sbWtchPntEnbl = false

/-- The step has a successor. -/
def Out.ok (o : Out) : Prop := ∃ t : State, o = .next t

/-! ## Addresses (20_memory.md R95 to R98, R122) -/

/-- A read of the logical address `a` reaches the physical address `p`. -/
abbrev State.CanRead (s : State) (dev : Bool) (a p : Word) : Prop :=
  s.r.translate dev .read a = .ok p ∧ s.outOfBounds p = false ∧ s.legal dev false p = true

/-- A write to the logical address `a` reaches the physical address `p`. -/
abbrev State.WriteReaches (s : State) (dev : Bool) (a p : Word) : Prop :=
  s.r.translate dev .write a = .ok p ∧ s.outOfBounds p = false ∧ s.legal dev true p = true

/-- A write to the logical address `a` reaches the physical address `p`, where memory or the cache takes it. -/
abbrev State.CanWrite (s : State) (dev : Bool) (a p : Word) : Prop :=
  s.WriteReaches dev a p ∧ s.takes dev p = true

/-- Ordinary memory: an L-process and the machine's mechanisms can both read and write it, and it keeps what is
written. -/
def State.ordinary (s : State) (a : Word) : Bool :=
  !s.outOfBounds a && s.decoded false false a && s.decoded false true a && s.keeps a

/-- The physical address `a` is ordinary memory. -/
abbrev State.Plain (s : State) (a : Word) : Prop := s.ordinary a = true

/-- Memory that the machine's mechanisms can read and write and that keeps what is written, though a program's ordinary
accesses may not reach it: the channel words below MemStart (R90). -/
abbrev State.Backed (s : State) (a : Word) : Prop :=
  s.decoded false false a = true ∧ s.decoded false true a = true ∧ s.keeps a = true

/-- A write to the logical address `a` is watched (44_protection_trap.md R484). -/
def State.watches (s : State) (a : Word) : Bool :=
  bitOf s.r.status sbWtchPntEnbl && !(wordAddr a).slt s.r.wl && !s.r.wu.slt (wordAddr a)

/-- A word address operand with which the instruction goes on: aligned, or misaligned with Unalign not trapped
(20_memory.md R84); it then acts on the aligned address. -/
abbrev State.WordOperand (s : State) (a : Word) : Prop := a &&& 3#32 = 0#32 ∨ s.r.status.getLsbD 19 = false

/-- A sixteen-bit address operand with which the instruction goes on (R84). -/
abbrev State.HalfOperand (s : State) (a : Word) : Prop := a &&& 1#32 = 0#32 ∨ s.r.status.getLsbD 19 = false

/-- The workspace address of the running process (10_state.md R24). -/
abbrev State.w (s : State) : Word := s.r.wdesc &&& 0xFFFFFFFC#32

/-- No other process is ready to run. -/
abbrev State.Alone (s : State) : Prop := s.hi.fptr = notProcess ∧ s.lo.fptr = notProcess ∧ s.shadowValid = false

/-- The fields of a bank's registers that are not significant are zero (10_state.md R63, R72). -/
def Bank.Configured (b : Bank) : Prop :=
  b.address &&& 3#32 = 0#32 ∧ b.mask &&& 3#32 = 0#32 ∧ b.rasBits &&& 3#32 = 0#32 ∧
  b.formatControl &&& 0x0FFFFFE3#32 = 0#32 ∧ b.rasStrobe &&& 0x3FFFF#32 = 0#32 ∧
  b.casStrobe &&& 0x3FFFF#32 = 0#32 ∧ b.progStrobe &&& 0x3FFFF#32 = 0#32 ∧ b.writeStrobe &&& 0x3FFFF#32 = 0#32 ∧
  b.timingControl &&& 0x1FF#32 = 0#32

/-- The fields of the configuration registers that are not significant are zero (10_state.md R60 to R72). -/
def State.Configured (s : State) : Prop :=
  s.conf.memStart &&& 3#32 = 0#32 ∧ s.conf.minInvalidChannel &&& 3#32 = 0#32 ∧ s.conf.hdrAreaBase &&& 3#32 = 0#32 ∧
  s.conf.externalRCBase &&& 3#32 = 0#32 ∧ s.conf.initialWptr &&& 3#32 = 0#32 ∧
  s.conf.pmiErrorAddress &&& 3#32 = 0#32 ∧ s.conf.ramAddress &&& 15#32 = 0#32 ∧
  s.conf.refreshControl &&& 0x7F#32 = 0#32 ∧ ∀ k : Nat, (s.conf.banks.get k).Configured ∧ (s.conf.activeBanks.get k).Configured

/-- No block of memory is in two lines of the main cache, and no two lines share one of the 256 rows of a bank
(20_memory.md R105). -/
def State.LinesApart (s : State) : Prop :=
  (s.cache.lines.map CacheLine.block).Nodup ∧
  (s.cache.lines.filterMap fun l => l.row.map fun r => (r, l.block % 4)).Nodup ∧
  ∀ l ∈ s.cache.lines, l.block < 2 ^ 28 ∧ ∀ r : Nat, l.row = some r → r < 256

/-- `u` is `s` but for lines of the main cache that read misses have fetched: clean, of cacheable blocks of
no device bank, and in no row yet (20_memory.md R97, R106, log 15). -/
def ReadMisses (s u : State) : Prop := ∃ ls : List CacheLine,
  u = { s with cache := { s.cache with lines := s.cache.lines ++ ls } } ∧
  ∀ l ∈ ls, l = ⟨none, l.block, .all false, s.mem.block l.block⟩ ∧
    ∃ a : Word, a.toNat / 16 = l.block ∧ s.fetchable a = true

/-! ## What an instruction completes with: the integer stack (00_scope.md R13); all else is as it was -/

/-- `i` completes: it pushes `v`, and changes nothing else. -/
def Pushes (s : State) (i : Instr) (v : Word) : Prop :=
  exec i s = .next { s with r := { s.r with areg := v, breg := s.r.areg, creg := s.r.breg } }

/-- `i` completes: Areg becomes `v`, and nothing else changes. -/
def SetsA (s : State) (i : Instr) (v : Word) : Prop := exec i s = .next { s with r := { s.r with areg := v } }

/-- `i` completes: the stack becomes `a`, `b`, `c`, and nothing else changes. -/
def SetsABC (s : State) (i : Instr) (a b c : Word) : Prop :=
  exec i s = .next { s with r := { s.r with areg := a, breg := b, creg := c } }

/-- `i` completes: Areg becomes `v`, Breg takes Creg, Creg any value; nothing else changes. -/
def Dyadic (s : State) (i : Instr) (v : Word) : Prop :=
  ∃ (c : Word) (d : Nat), exec i s = .next { s with r := { s.r with areg := v, breg := s.r.creg, creg := c }, draws := d }

/-- `i` completes: Areg and Creg become any value, Breg takes Creg; nothing else changes. -/
def DyadicAny (s : State) (i : Instr) : Prop := ∃ v : Word, Dyadic s i v

/-- `i` completes: Areg and Breg become `a` and `b`, Creg any value; nothing else changes. -/
def TwoResults (s : State) (i : Instr) (a b : Word) : Prop :=
  ∃ (c : Word) (d : Nat), exec i s = .next { s with r := { s.r with areg := a, breg := b, creg := c }, draws := d }

/-- `i` completes: Areg becomes `a`, Breg and Creg any value; nothing else changes. -/
def OneResult (s : State) (i : Instr) (a : Word) : Prop := ∃ b : Word, TwoResults s i a b

/-- `i` completes: the stack is popped once, Creg any value; nothing else changes. -/
def Pops (s : State) (i : Instr) : Prop := Dyadic s i s.r.breg

/-- The exact result of a checked instruction fits a word (40_integer.md R178). -/
abbrev Fits (r : Int) : Prop := -2147483648 ≤ r ∧ r ≤ 2147483647

/-- StatusReg with sb.IntOvFlag set. -/
def withOverflow (s : State) : State := { s with r := { s.r with status := s.r.status ||| 0x40#32 } }

/-! ## What is left alone -/

/-- Every byte of memory outside the `n` bytes from `a` reads as before. -/
def SameOutside (s t : State) (a : Word) (n : Nat) : Prop :=
  ∀ b : Word, (∀ i : Nat, i < n → b ≠ a + BitVec.ofNat 32 i) → t.byteAt b = s.byteAt b

/-- Every byte of memory reads as before. -/
def SameMemory (s t : State) : Prop := ∀ b : Word, t.byteAt b = s.byteAt b

/-- Every byte outside the listed words reads as before. -/
def SameBut (s t : State) (ws : List Word) : Prop :=
  ∀ b : Word, (b &&& 0xFFFFFFFC#32) ∉ ws → t.byteAt b = s.byteAt b

/-- `t` is `s` but for the registers of the running process, the scheduling lists, memory, what the caches record of
it, and the count of draws. -/
def OnlySched (s t : State) : Prop :=
  t = { s with
    r := t.r, hi := t.hi, lo := t.lo, mem := t.mem, cache := { s.cache with lines := t.cache.lines }, ws := t.ws
    prefetch := t.prefetch, draws := t.draws }

/-- The registers are as they were but for the integer stack. -/
def OnlyIntRegs (s t : State) : Prop := t.r = { s.r with areg := t.r.areg, breg := t.r.breg, creg := t.r.creg }

/-- The registers are as they were but for the integer and the floating-point stack. -/
def OnlyStacks (s t : State) : Prop :=
  t.r = { s.r with
    areg := t.r.areg, breg := t.r.breg, creg := t.r.creg, fpA := t.r.fpA, fpB := t.r.fpB, fpC := t.r.fpC }

/-- The registers are as they were but for the stacks, the rounding mode and the block move registers, which a descheduling
or timeslicing point leaves undefined though the process goes on (45_floating_point.md R521, 41_control_blockmove.md R292). -/
def OnlyPoint (s t : State) : Prop :=
  t.r = { s.r with
    areg := t.r.areg, breg := t.r.breg, creg := t.r.creg, fpA := t.r.fpA, fpB := t.r.fpB, fpC := t.r.fpC
    round := t.r.round, bm0 := t.r.bm0, bm1 := t.r.bm1, bm2 := t.r.bm2 }

/-- The process `w` of a priority has been appended to its list (42_process_sched.md R322); the other list is as it
was. -/
def Appended (s t : State) (low : Bool) (w : Word) : Prop :=
  t.sched (!low) = s.sched (!low) ∧
  t.sched low = { s.sched low with
    fptr := if (s.sched low).fptr = notProcess then w else (s.sched low).fptr, bptr := w } ∧
  ((s.sched low).fptr ≠ notProcess → t.wordAt ((s.sched low).bptr - 8#32) = w)

/-- A list to which a process can be appended: empty, or with a last process whose link word is ordinary memory. -/
abbrev State.CanAppend (s : State) (low : Bool) : Prop :=
  (s.sched low).fptr = notProcess ∨ ((s.sched low).bptr &&& 3#32 = 0#32 ∧ s.Plain ((s.sched low).bptr - 8#32))

/-- The word that appending to a list writes, where the list is not empty. -/
def State.appendPlace (s : State) (low : Bool) : List Word :=
  if (s.sched low).fptr = notProcess then [] else [(s.sched low).bptr - 8#32]

/-- The process that ran has left the processor, which has become idle (10_state.md R23): of the registers only the
status, the instruction pointer and those a process does not own are sure to be as they were, interrupts are enabled,
and what else changed is memory and the scheduling lists. -/
def GoesIdle (s t : State) : Prop :=
  t.r.wdesc = notProcess ∧
  t = { s with
    r := { t.r with
      status := s.r.status, iptr := s.r.iptr, th := s.r.th, region := s.r.region, pstate := s.r.pstate
      wstub := s.r.wstub }
    hi := t.hi, lo := t.lo, intEnabled := true, mem := t.mem, cache := { s.cache with lines := t.cache.lines }
    ws := t.ws, prefetch := t.prefetch, draws := t.draws }

/-- The process of `s` has been saved at its workspace (42_process_sched.md R326). -/
def Saved (s t : State) : Prop := t.wordAt (s.w - 4#32) = s.r.iptr ∧ t.wordAt (s.w - 12#32) = s.r.th

/-- A process with the null trap-handler that can be descheduled while no other is ready: the next step is idle. -/
abbrev State.CanIdle (s : State) : Prop :=
  s.Alone ∧ s.r.th = notProcess ∧ s.Plain (s.w - 4#32) ∧ s.Plain (s.w - 12#32)

/-- `i` completes: the process that executes it, saved at its workspace, leaves the processor, which becomes idle. The listed
words are stored beside what is saved, and no other byte of memory changes; the model records whether the message of the
process is in pw.Temp (log 37) and which resource channels are the last of a queue (log 19). -/
def LeavesIdle (s : State) (i : Instr) (temp : Bool) (ws : List (Word × Word)) : Prop :=
  ([s.w - 4#32, s.w - 12#32] ++ ws.map Prod.fst).Nodup → (∀ x ∈ ws, s.Plain x.1) →
  ∃ t : State, exec i s = .next t ∧ Saved s t ∧ (∀ x ∈ ws, t.wordAt x.1 = x.2) ∧
    SameBut s t ([s.w - 4#32, s.w - 12#32] ++ ws.map Prod.fst) ∧
    GoesIdle (s.setTemp s.r.wdesc temp) { t with rcTails := s.rcTails } ∧ t.hi = s.hi ∧ t.lo = s.lo

/-- As `LeavesIdle`, but that the process `d`, which has the null trap-handler, is made ready by the instruction and, being the
only one, runs next; after a Stop nothing is dispatched, and it stays on its list (47_vcp_config.md R698). -/
def LeavesTo (s : State) (i : Instr) (temp : Bool) (ws : List (Word × Word)) (d : Word) : Prop :=
  let x := d &&& 0xFFFFFFFC#32
  let low := d.getLsbD 0
  ([s.w - 4#32, s.w - 12#32, x - 4#32, x - 12#32] ++ ws.map Prod.fst).Nodup → (∀ y ∈ ws, s.Plain y.1) →
  x ≠ notProcess → s.Plain (x - 4#32) → s.Plain (x - 12#32) → s.wordAt (x - 12#32) = notProcess →
  ∃ t : State, exec i s = .next t ∧ Saved s t ∧ (∀ y ∈ ws, t.wordAt y.1 = y.2) ∧
    SameBut s t ([s.w - 4#32, s.w - 12#32] ++ ws.map Prod.fst) ∧ t.sched (!low) = s.sched (!low) ∧
    (s.ctl.gross ≠ .stopping → t.r.wdesc = x ||| (d &&& 1#32) ∧ t.r.iptr = s.wordAt (x - 4#32) ∧ t.r.th = notProcess ∧
      t.r.status = 0x80#32 ∧ t.sched low = { s.sched low with bptr := x }) ∧
    (s.ctl.gross = .stopping → t.r.wdesc = notProcess ∧ t.sched low = { s.sched low with fptr := x, bptr := x }) ∧
    t = { (s.setTemp s.r.wdesc temp) with
      r := t.r, hi := t.hi, lo := t.lo, intEnabled := true, tsCount := if t.r.wdesc.getLsbD 0 then 0 else s.tsCount
      mem := t.mem, cache := { s.cache with lines := t.cache.lines }, ws := t.ws, prefetch := t.prefetch
      rcTails := t.rcTails, draws := t.draws } ∧
    t.r = { t.r with region := s.r.region, pstate := s.r.pstate, wstub := s.r.wstub }

/-- `t` is `s` but for the integer stack (and the count of draws). -/
def OnlyStack (s t : State) : Prop :=
  t = { s with r := { s.r with areg := t.r.areg, breg := t.r.breg, creg := t.r.creg }, draws := t.draws }

/-- `t` is `s` but for the integer stack and StatusReg. -/
def OnlyStackAndStatus (s t : State) : Prop :=
  t = { s with
    r := { s.r with areg := t.r.areg, breg := t.r.breg, creg := t.r.creg, status := t.r.status }, draws := t.draws }

/-- `t` is `s` but for what a descheduling point leaves undefined (`OnlyPoint`) and StatusReg. -/
def OnlyPointAndStatus (s t : State) : Prop :=
  t = { s with
    r := { s.r with
      areg := t.r.areg, breg := t.r.breg, creg := t.r.creg, fpA := t.r.fpA, fpB := t.r.fpB, fpC := t.r.fpC
      round := t.r.round, bm0 := t.r.bm0, bm1 := t.r.bm1, bm2 := t.r.bm2, status := t.r.status }
    draws := t.draws }

/-- `t` is `s` but for the registers of the running process, memory and what the caches record of it. -/
def OnlyStore (s t : State) : Prop :=
  t = { s with
    r := t.r, mem := t.mem, cache := { s.cache with lines := t.cache.lines }, ws := t.ws, prefetch := t.prefetch, draws := t.draws }

/-- `i` completes: it stores the `n` low bytes of `v` at the physical address `p`, little-endian, and no other byte
changes; Areg becomes `a`, and Breg `b` where that is given; no other register changes. -/
def Stores (s : State) (i : Instr) (p : Word) (n : Nat) (v a : Word) (b : Option Word) : Prop :=
  ∃ t : State, exec i s = .next t ∧
    (∀ k : Nat, k < n → t.byteAt (p + BitVec.ofNat 32 k) = v.extractLsb' (8 * k) 8) ∧
    SameOutside s t p n ∧ OnlyStore s t ∧
    t.r = { s.r with areg := a, breg := t.r.breg, creg := t.r.creg } ∧ (∀ w : Word, b = some w → t.r.breg = w)

/-! ## Traps (60_exceptions.md R716 to R731) -/

/-- The privileged instructions (44_protection_trap.md R452, opcode_table.json). -/
def privilegedInstrs : List Instr :=
  [.fdcl, .icl, .ldresptr, .stresptr, .erdsq, .irdsq, .mkrc, .unmkrc, .restart, .grant, .enbg, .disg,
   .readhdr, .writehdr, .initvlcb, .setchmode, .sethdr, .swapbfr, .vin, .vout, .stopch, .swapqueue,
   .swaptimer, .insertqueue, .signal, .wait, .selth, .goprot, .tret, .ldshadow, .stshadow, .endp, .input,
   .output, .startp, .outbyte, .outword, .resetch, .stopp, .testpranal, .tin, .dist, .disc, .diss, .runp,
   .alt, .altwt, .altend, .enbt, .enbc, .enbs, .talt, .taltwt, .sttimer, .ldmemstartval, .settimeslice,
   .insphdr, .readbfr, .ldconf, .stconf, .ldcnt, .ldth, .ldchstatus, .intdis, .intenb, .chantype]

/-- `o` is the trap of `s` with the causes `kind`, the single-step bit of `s` and, where it counts, the pending
watchpoint, and the error type `et`: the state `sv` says is saved, and the handler, the supervisor or the halt
follows. -/
def Traps (s : State) (o : Out) (sv : Saves) (kind : TrapKind) (watch : Bool) (et : Word) : Prop :=
  o = (s.takeTrap sv
    (BitVec.ofNat 32 ((if s.r.status.getLsbD 26 then 16 else 0) + 2 * kind.code + (if watch then 1 else 0))) et).done

/-- An L-process can take a trap: it has an aligned trap-handler data structure in ordinary memory (10_state.md R45). -/
def State.HandlerReady (s : State) : Prop :=
  s.trouble = none ∧ s.mem.wf = true ∧ s.r.isP = false ∧ s.r.th ≠ notProcess ∧ s.r.th &&& 3#32 = 0#32 ∧
  ∀ k : Nat, k < 12 → s.Plain (s.r.th + BitVec.ofNat 32 (4 * k))

/-- A P-process can take a trap: its P-state structure (10_state.md R46) and the word its stub resumes at are ordinary
memory, apart from each other; and so is the control word of its supervisor's trap-handler, where that is not null, which
enables no watchpoint and has no reserved bit set. -/
def State.SupervisorReady (s : State) : Prop :=
  s.trouble = none ∧ s.mem.wf = true ∧ s.r.isP = true ∧ s.r.pstate &&& 3#32 = 0#32 ∧
  (∀ k : Nat, k < 11 → s.Plain (s.r.pstate + BitVec.ofNat 32 (4 * k))) ∧
  s.Plain ((s.r.wstub &&& 0xFFFFFFFC#32) - 4#32) ∧
  (∀ k : Nat, k < 11 → (s.r.wstub &&& 0xFFFFFFFC#32) - 4#32 ≠ s.r.pstate + BitVec.ofNat 32 (4 * k)) ∧
  (s.r.th ≠ notProcess → s.r.th &&& 3#32 = 0#32 ∧ s.Plain s.r.th ∧
    (∀ k : Nat, k < 11 → s.r.th ≠ s.r.pstate + BitVec.ofNat 32 (4 * k)) ∧ s.wordAt s.r.th &&& 0x31F40033#32 = 0#32)

/-- `t` is `s` after entry to the trap-handler of an L-process (R720): what is saved in the trap-handler data
structure at ThReg, what the registers become, and that nothing else changes. -/
def EntersHandler (s t : State) (sv : Saves) (reason et : Word) : Prop :=
  let h := s.r.th
  t.r.wdesc = h ||| (s.r.wdesc &&& 1#32) ∧ t.r.iptr = s.wordAt (h + 4#32) ∧ t.r.th = 0x80000000#32 ∧
  t.r.status = 0x80#32 ∧ t.r.areg = reason ∧ t.r.breg = et ∧ t.intEnabled = true ∧
  t.wordAt h &&& 0xEE0BFFCC#32 = ((s.r.status &&& 0xBFFFFFFF#32) ||| 0x80000000#32) &&& 0xEE0BFFCC#32 ∧
  t.wordAt (h + 16#32) = s.r.eptr ∧
  t.wordAt (h + 28#32) = (s.r.wdesc &&& 0xFFFFFFFC#32) ∧
  (sv.iptr = false → t.wordAt (h + 32#32) = s.wordAt (h + 32#32)) ∧
  (sv.iptr = true → sv.iptrFree = false → t.wordAt (h + 32#32) = s.r.iptr) ∧
  (sv.stackFree = false → t.wordAt (h + 36#32) = s.r.areg ∧ t.wordAt (h + 40#32) = s.r.breg ∧
    t.wordAt (h + 44#32) = s.r.creg) ∧
  t.wordAt (h + 4#32) = s.wordAt (h + 4#32) ∧ t.wordAt (h + 8#32) = s.wordAt (h + 8#32) ∧
  t.wordAt (h + 12#32) = s.wordAt (h + 12#32) ∧ t.wordAt (h + 20#32) = s.wordAt (h + 20#32) ∧
  t.wordAt (h + 24#32) = s.wordAt (h + 24#32) ∧ SameOutside s t h 48 ∧
  t.r.fpA = s.r.fpA ∧ t.r.fpB = s.r.fpB ∧ t.r.fpC = s.r.fpC ∧ t.r.round = s.r.round ∧
  t.r.bm0 = s.r.bm0 ∧ t.r.bm1 = s.r.bm1 ∧ t.r.bm2 = s.r.bm2 ∧ t.r.region = s.r.region ∧
  t.r.pstate = s.r.pstate ∧ t.r.wstub = s.r.wstub ∧
  t = { s with
    r := t.r, intEnabled := true, mem := t.mem, cache := { s.cache with lines := t.cache.lines }, ws := t.ws
    prefetch := t.prefetch, descheduled := s.descheduled.filter (· != h), draws := t.draws }

/-- `t` is `s` after the trap of a P-process (R724): what is saved in the P-state structure at PstateReg, and that the
supervisor resumes where its stub says, with the status of its own trap-handler. -/
def EntersSupervisor (s t : State) (sv : Saves) (reason et : Word) : Prop :=
  let p := s.r.pstate
  t.r.wdesc = s.r.wstub ∧ t.r.iptr = s.wordAt ((s.r.wstub &&& 0xFFFFFFFC#32) - 4#32) ∧ t.r.th = s.r.th ∧
  t.r.status = (if s.r.th = notProcess then 0x80#32 else s.wordAt s.r.th &&& 0x660BFFCC#32) ∧
  t.r.areg = reason ∧ t.r.breg = et ∧ t.intEnabled = true ∧
  t.wordAt p &&& 0xEE0BFFCC#32 = s.r.status &&& 0xAE0BFFCC#32 ∧
  t.wordAt (p + 4#32) = s.r.eptr ∧
  t.wordAt (p + 16#32) = (s.r.wdesc &&& 0xFFFFFFFC#32) ∧
  (sv.iptr = false → t.wordAt (p + 20#32) = s.wordAt (p + 20#32)) ∧
  (sv.iptr = true → sv.iptrFree = false → t.wordAt (p + 20#32) = s.r.iptr) ∧
  (sv.stackFree = false → t.wordAt (p + 24#32) = s.r.areg ∧ t.wordAt (p + 28#32) = s.r.breg ∧
    t.wordAt (p + 32#32) = s.r.creg) ∧
  SameOutside s t p 44 ∧ t.r.fpA = s.r.fpA ∧ t.r.fpB = s.r.fpB ∧ t.r.fpC = s.r.fpC ∧ t.r.round = s.r.round ∧
  t.r.bm0 = s.r.bm0 ∧ t.r.bm1 = s.r.bm1 ∧ t.r.bm2 = s.r.bm2 ∧ t.r.region = s.r.region ∧
  t.r.pstate = s.r.pstate ∧
  t = { s with
    r := t.r, intEnabled := true, mem := t.mem, cache := { s.cache with lines := t.cache.lines }, ws := t.ws
    prefetch := t.prefetch, draws := t.draws }

/-! ## Virtual links, configuration, floating point -/

/-- `t` is `s` but for registers, memory, what the caches record of it, and the record of virtual link `k`. -/
def OnlyLink (s t : State) (k : Nat) : Prop :=
  (∀ j : Nat, j ≠ k → t.vlcb j = s.vlcb j) ∧
  t = { s with
    r := t.r, mem := t.mem, cache := { s.cache with lines := t.cache.lines }, ws := t.ws, prefetch := t.prefetch
    vcp := { s.vcp with vlcbs := t.vcp.vlcbs }, draws := t.draws }

/-- No floating-point trap is enabled (10_state.md R30). -/
abbrev State.NoFpTrap (s : State) : Prop := s.r.status &&& 0x0002AA08#32 = 0#32

/-- A floating-point entry as the spec lays it out: a single has nothing above its 32 bits. -/
def FpEntry.Formed (x : FpEntry) : Prop := x.dbl = false → x.bits >>> 32 = 0#64

/-- The fraction bits of an entry (45_floating_point.md R510). -/
def FpEntry.fraction (x : FpEntry) : Nat := if x.dbl then x.bits.toNat % 2 ^ 52 else x.bits.toNat % 2 ^ 23

/-- The exponent bits of an entry. -/
def FpEntry.exponent (x : FpEntry) : Nat :=
  if x.dbl then x.bits.toNat / 2 ^ 52 % 2 ^ 11 else x.bits.toNat / 2 ^ 23 % 2 ^ 8

/-- The sign bit of an entry. -/
def FpEntry.sign (x : FpEntry) : Bool := if x.dbl then x.bits.getLsbD 63 else x.bits.getLsbD 31

/-- An entry is a NaN or an infinity. -/
def FpEntry.special (x : FpEntry) : Bool := x.exponent == if x.dbl then 2 ^ 11 - 1 else 2 ^ 8 - 1

/-- An entry is a NaN. -/
def FpEntry.nan (x : FpEntry) : Bool := x.special && x.fraction != 0

/-- The number an entry stands for, in units of 2^-1074, of which every finite number of both formats is a whole
multiple (R510). -/
def FpEntry.units (x : FpEntry) : Int :=
  let low : Nat := if x.dbl then 0 else 925
  let m : Nat := (if x.exponent = 0 then x.fraction else (if x.dbl then 2 ^ 52 else 2 ^ 23) + x.fraction) *
    2 ^ (low + (if x.exponent = 0 then 0 else x.exponent - 1))
  if x.sign then -(m : Int) else m

/-- One unit of `FpEntry.units` is 2^-1074: this many make 1. -/
def fpOne : Int := 2 ^ 1074

/-- The integer to which a number is rounded in a mode (R514, 46_floating_point_ops.md R573). -/
def FpEntry.nearInt (x : FpEntry) (mode : BitVec 2) : Int :=
  let q := x.units / fpOne
  let r := x.units % fpOne
  if r = 0 then q
  else if mode = 0#2 then (if 0 ≤ q then q else q + 1)
  else if mode = 1#2 then (if 2 * r < fpOne then q else if fpOne < 2 * r then q + 1 else q + q % 2)
  else if mode = 2#2 then q + 1 else q

/-- A real number x given exactly: how an integer compares with 2x in units of 2^-1074. -/
abbrev Cut := Int → Ordering

/-- The power of two after the largest number of a format, in units: a rounded magnitude that reaches it overflows. -/
def fpTop (d : Bool) : Int := 2 ^ ((if d then 1024 else 128) + 1074)

/-- The smallest normalised number of a format, 2^Emin of R520, in units. -/
def fpSmall (d : Bool) : Int := 2 ^ (if d then 52 else 948)

/-- `u` units are a number of a format, or one of the two powers of two that bound them; `even` tells whether its last
fraction bit is 0. -/
def OnGrid (d : Bool) (u : Int) (even : Bool) : Prop :=
  ((u = fpTop d ∨ u = -fpTop d) ∧ even = true) ∨
  ∃ e : FpEntry, e.dbl = d ∧ e.Formed ∧ e.special = false ∧ e.units = u ∧ even = !e.bits.getLsbD 0

/-- A real number is rounded to `u` units of a format in a rounding mode (R514): with `lo` the greatest number of the format
not above it and `hi` the least not below it, toward zero, to the nearest with ties to the even one, up, or down. -/
def RoundsTo (d : Bool) (mode : BitVec 2) (c : Cut) (u : Int) : Prop :=
  ∃ (lo hi : Int) (x y : Bool), OnGrid d lo x ∧ OnGrid d hi y ∧ c (2 * lo) ≠ .gt ∧ c (2 * hi) ≠ .lt ∧
    (∀ (v : Int) (z : Bool), OnGrid d v z → (c (2 * v) ≠ .gt → v ≤ lo) ∧ (c (2 * v) ≠ .lt → hi ≤ v)) ∧
    (mode = 0#2 → u = if c 0 = .lt then lo else hi) ∧ (mode = 2#2 → u = hi) ∧ (mode = 3#2 → u = lo) ∧
    (mode = 1#2 → (c (lo + hi) = .lt → u = hi) ∧ (c (lo + hi) = .gt → u = lo) ∧
      (c (lo + hi) = .eq → u = if x then lo else hi))

/-- `t` is `s` but for the floating-point stack, the rounding mode, which is nearest again (45_floating_point.md R514),
and floating-point flags, which only become set. -/
def OnlyFp (s t : State) : Prop :=
  t = { s with
    r := { s.r with fpA := t.r.fpA, fpB := t.r.fpB, fpC := t.r.fpC, round := 1#2, status := t.r.status }
    draws := t.draws } ∧
  t.r.status = s.r.status ||| (t.r.status &&& 0x00015504#32)

/-- With no trap enabled an operation whose exact result is the real number `c` delivers it rounded once in the mode of `s`
to the format `d` (R519, R520): FPInexact is set where that is not exact, and FPUnderflow with it where the magnitude stays
below 2^Emin, neither where it is exact; where the rounded magnitude is beyond the largest number, FPOverflow, FPInexact and
FPError are set and an infinity or the largest number is delivered, by the mode. Whether FPUnderflow is set where the
magnitude is rounded up to 2^Emin itself is left out here. -/
def DeliversRounded (s t : State) (d : Bool) (c : Cut) : Prop :=
  let neg := c 0 == .gt
  let big : Dword := if d then 0x7FEFFFFFFFFFFFFF#64 else 0x7F7FFFFF#64
  let sign : Dword := if neg then (if d then 0x8000000000000000#64 else 0x80000000#64) else 0#64
  let toInf := s.r.round == 1#2 || (s.r.round == 2#2 && !neg) || (s.r.round == 3#2 && neg)
  OnlyFp s t ∧ ∃ flags : Word, t.r.status = s.r.status ||| flags ∧
    (∀ u : Int, RoundsTo d s.r.round c u → -fpTop d < u → u < fpTop d →
      t.r.fpA.dbl = d ∧ t.r.fpA.Formed ∧ t.r.fpA.special = false ∧ t.r.fpA.units = u ∧ t.r.fpA.sign = neg ∧
      flags &&& 0xFFFFBFFF#32 = (if c (2 * u) = .eq then 0#32 else 0x10000#32) ∧
      (c (2 * u) ≠ .eq → -fpSmall d < u → u < fpSmall d → flags.getLsbD 14 = true) ∧
      (c (2 * u) = .eq ∨ c (2 * fpSmall d) ≠ .gt ∨ c (-(2 * fpSmall d)) ≠ .lt → flags.getLsbD 14 = false)) ∧
    ((∀ u : Int, RoundsTo d s.r.round c u → u = fpTop d ∨ u = -fpTop d) →
      flags = 0x11004#32 ∧ t.r.fpA = ⟨d, (if toInf then big + 1#64 else big) + sign⟩)

end Sys2Proof.Machine
end

