-- ==== Sys2Proof/WellFormed.lean ====
section
/-! DEFINITION. WellFormed: which terms of the syntax stand for an instruction of the machine
(30_encoding.md R135, R137; the assigned operation codes are the decoder's `opTable`). -/

namespace Sys2Proof

/-- `opr` stands for the unassigned operation codes only; every other term is an instruction, with every
operand value (R137, R140) (log 33, DEDUCED). -/
def Instr.wf (i : Instr) : Bool :=
  match i with
  | .opr code => (opInstr? code).isNone
  | .j _ => true
  | .ldlp _ => true
  | .pfix _ => true
  | .ldnl _ => true
  | .ldc _ => true
  | .ldnlp _ => true
  | .nfix _ => true
  | .ldl _ => true
  | .adc _ => true
  | .call _ => true
  | .cj _ => true
  | .ajw _ => true
  | .eqc _ => true
  | .stl _ => true
  | .stnl _ => true
  | .ldprodid | .nop | .fdca | .ica | .fdcl | .icl | .devmove | .ldresptr | .stresptr | .erdsq
  | .irdsq | .mkrc | .unmkrc | .restart | .causeerror | .stmove2dinit | .grant | .enbg | .disg
  | .readhdr | .writehdr | .initvlcb | .setchmode | .sethdr | .swapbfr | .vin | .vout | .stopch
  | .swapqueue | .swaptimer | .insertqueue | .timeslice | .signal | .wait | .syscall | .selth
  | .goprot | .tret | .ldshadow | .stshadow | .fpldall | .fpstall | .rev | .lb | .bsub | .endp
  | .diff | .add | .gcall | .input | .prod | .gt | .wsub | .output | .sub | .startp | .outbyte
  | .outword | .resetch | .csub0 | .stopp | .ladd | .norm | .ldiv | .ldpi | .xdble | .ldpri | .rem
  | .ret | .lend | .ldtimer | .testpranal | .tin | .div | .dist | .disc | .diss | .lmul | .not
  | .xor | .bcnt | .lshr | .lshl | .lsum | .lsub | .runp | .xword | .sb | .gajw | .wcnt | .shr
  | .shl | .mint | .alt | .altwt | .altend | .and | .enbt | .enbc | .enbs | .move | .or | .csngl
  | .ccnt1 | .talt | .ldiff | .taltwt | .sum | .mul | .sttimer | .cword | .dup | .move2dinit
  | .move2dall | .move2dnonzero | .move2dzero | .gtu | .fmul | .crcword | .crcbyte | .bitcnt
  | .bitrevword | .bitrevnbits | .pop | .ldmemstartval | .wsubdb | .fpldnldbi | .fpstnldb
  | .fpldnlsni | .fpadd | .fpstnlsn | .fpsub | .fpldnldb | .fpmul | .fpdiv | .fprange | .fpldnlsn
  | .fpnan | .fpordered | .fpnotfinite | .fpgt | .fpeq | .fpi32tor32 | .fpge | .fpi32tor64
  | .fpb32tor64 | .fplg | .fprtoi32 | .fpstnli32 | .fpldzerosn | .fpldzerodb | .fpint | .fpdup
  | .fprev | .fpldnladddb | .fpldnlmuldb | .fpldnladdsn | .fpldnlmulsn | .settimeslice | .ldflags
  | .stflags | .xbword | .lbx | .cb | .cbu | .insphdr | .readbfr | .ldconf | .stconf | .ldcnt
  | .ssub | .ldth | .ldchstatus | .intdis | .intenb | .cir | .ss | .chantype | .ls | .ciru | .fprem
  | .fprn | .fpdivby2 | .fpmulby2 | .fpsqrt | .fprp | .fprm | .fprz | .fpr32tor64 | .fpr64tor32
  | .fpexpdec32 | .fpexpinc32 | .fpabs | .fpadddbsn | .fpchki32 | .fpchki64 | .devlb | .devsb
  | .devls | .devss | .devlw | .devsw | .xsword | .lsx | .cs | .csu | .lddevid => true

end Sys2Proof
end

