-- ==== Sys2Proof/Certificates/Slice0/Obligations.lean ====
section
/-! DEFINITION. Obligations: the statements about the machine, each with the rules of the spec it comes from. -/

open Sys2Proof Sys2Proof.Machine

/-! ## Reset, memory, decoding, the step -/

/-- What the spec states of the machine after hard reset (70_reset_and_hazards.md R775 and R776). -/
def Obligations.ResetLeaves : Prop :=
  State.reset.r.wdesc = 0x80000000#32 ∧ State.reset.hi.fptr = 0x80000000#32 ∧ State.reset.lo.fptr = 0x80000000#32 ∧
  State.reset.shadowValid = false ∧ State.reset.oreg = 0#32 ∧ State.reset.intEnabled = true ∧
  State.reset.clockRunning = false ∧ State.reset.tsCount = 0 ∧ State.reset.ws.valid = 0#32 ∧
  State.reset.conf.errorSinceReset = false ∧ State.reset.conf.pmiConfigured = false ∧
  State.reset.conf.chanWriteLock = false ∧ State.reset.conf.pmiWriteLock = false ∧
  State.reset.conf.sysServWriteLock = false ∧ State.reset.ctl.gross = .initial ∧
  (∀ n : Nat, (State.reset.links.get n).started = false ∧ (State.reset.links.get n).mode.getLsbD 3 = false ∧
    (State.reset.links.get n).writeLock = false) ∧
  (∀ a : Word, State.reset.target a = .ram ↔ a - 0x80000000#32 < 0x4000#32)

/-- The reset state meets what `StepKeepsTheInvariant`, `StepKeepsConfiguration` and `StepKeepsTheCacheLines` keep: the
model's own canonical memory, empty at reset (log 5), and trouble field (log 30), the values it chose for the configuration
registers to which the spec gives none (log 7, log 8), kept with their bits of no significance at zero (log 60), and a cache
without lines. -/
def Obligations.ResetMeetsTheInvariants : Prop :=
  State.reset.mem.wf = true ∧ State.reset.trouble = none ∧ State.reset.Configured ∧ State.reset.LinesApart

/-- Every step keeps the memory in canonical form (addresses strictly rising below 2^32, no byte listed that reads
as unlisted: the model's own form, log 5) and leaves no mechanism in trouble (the model's own field, log 30). -/
def Obligations.StepKeepsTheInvariant : Prop :=
  ∀ s t : State, s.mem.wf = true → s.trouble = none → step s = .next t → t.mem.wf = true ∧ t.trouble = none

/-- Every step keeps the bits of no significance of the configuration registers at zero: the low bits of word addresses and
of the strobe registers (the registers are 10_state.md R62, R63, R64, R72; that such a bit is kept as zero, though a read
may deliver any value for it, is the model's choice, log 60). -/
def Obligations.StepKeepsConfiguration : Prop :=
  ∀ s t : State, s.Configured → step s = .next t → t.Configured

/-- Every step keeps the lines of the main cache apart: no block of memory is in two lines, and no two lines share one of the
256 rows of a bank (20_memory.md R105, R106). That a line just fetched has no row until the refill engine moves is the
model's choice (log 15). -/
def Obligations.StepKeepsTheCacheLines : Prop :=
  ∀ s t : State, s.LinesApart → step s = .next t → t.LinesApart

/-- Decoding what the encoder writes gives the instruction back, for every instruction but the two prefixing
components, with every operand and whatever bytes follow (30_encoding.md R132, R141). -/
def Obligations.DecodeEncodeRoundTrip : Prop :=
  ∀ (i : Instr) (rest : List Byte), i.wf = true → (∀ d : BitVec 4, i ≠ .pfix d ∧ i ≠ .nfix d) →
    decode (encode i ++ rest) = .ok (i, rest)

/-- A few instructions as the bytes the spec prints for them (30_encoding.md R133, R136; 40_integer.md;
41_control_blockmove.md; 44_protection_trap.md; 46_floating_point_ops.md); and what a prefixing component met alone, as a
step of a chain longer than one fetch, makes of Oreg (30_encoding.md R132). That a chain so long takes several steps, which
`inChain` marks, is the model's choice (log 4); nothing else changes. -/
def Obligations.PrintedBytesAndPrefixes : Prop :=
  decode [0x24#8, 0xF6#8] = .ok (.and, []) ∧ decode [0x20#8, 0x24#8, 0xF6#8] = .ok (.and, []) ∧
  decode [0xF5#8] = .ok (.add, []) ∧ decode [0x60#8, 0xBC#8] = .ok (.ajw 0xFFFFFFFC#32, []) ∧
  decode [0x60#8, 0xF8#8] = .ok (.syscall, []) ∧ decode [0x60#8, 0xFA#8] = .ok (.goprot, []) ∧
  decode [0x2B#8, 0xF6#8] = .ok (.ldflags, []) ∧ decode [0x22#8, 0xF0#8] = .ok (.ret, []) ∧
  decode [0x28#8, 0xF7#8] = .ok (.fpadd, []) ∧ decode [0x63#8, 0xF0#8] = .ok (.nop, []) ∧
  (∀ (s : State) (d : BitVec 4),
    exec (.pfix d) s = .next { s with oreg := (s.oreg ||| d.setWidth 32) <<< 4, inChain := true } ∧
    exec (.nfix d) s = .next { s with oreg := (~~~ (s.oreg ||| d.setWidth 32)) <<< 4, inChain := true })

/-- A step runs the instruction that the bytes it fetches decode to: IptrReg has moved past them, and EptrReg is at their
first byte (30_encoding.md R143, 60_exceptions.md R731). A chain of prefixes longer than one fetch goes on with the Oreg it
has and keeps EptrReg, and a prefixing component met alone leaves Oreg to be changed by its own effect (log 4). That an empty
agenda means a whole step of the CPU is the model's choice (log 6), that the refill engine moves before it log 15, and the
draw that a full pre-fetch buffer takes log 22. A fetch that misses the cache fetches blocks into it (20_memory.md R106). -/
def Obligations.StepRunsTheDecodedInstruction : Prop :=
  ∀ (s : State) (bs rest : List Byte) (i : Instr), s.cpuRuns = true → s.cache.waiting = false →
    s.inChain = true ∨ (s.agenda = [] ∧ s.interruptDue = false ∧ s.r.wdesc ≠ 0x80000000#32 ∧
      (s.r.isP && s.timesliceDue) = false) →
    s.fetched = .bytes bs → decodeWith s.oreg bs = .ok (i, rest) →
    let n := bs.length - rest.length
    let u := s.fetchMisses s.r.iptr n
    let t : State := { u with
      r := { s.r with
        iptr := s.r.iptr + BitVec.ofNat 32 n
        eptr := if s.inChain then s.r.eptr else s.r.iptr, midInstr := false }
      inChain := false, resuming := s.r.midInstr, cpuMode := .whole
      draws := if s.prefetch = [] then s.draws else s.draws + 1 }
    ReadMisses s u ∧ ((∃ d : BitVec 4, i = .pfix d ∨ i = .nfix d) → step s = exec i t) ∧
    (¬(∃ d : BitVec 4, i = .pfix d ∨ i = .nfix d) → step s = exec i { t with oreg := 0#32 })

/-- What is fetched is what memory holds at the instruction pointer, up to the first component that is no prefix
(30_encoding.md R134). -/
def Obligations.FetchReadsMemory : Prop :=
  ∀ (s : State) (n : Nat), s.r.isP = false → s.prefetch = [] → n < 8 →
    (∀ k : Nat, k ≤ n → s.inVlcb (s.r.iptr + BitVec.ofNat 32 k) = false ∧
      s.legal false false (s.r.iptr + BitVec.ofNat 32 k) = true) →
    (∀ k : Nat, k < n → (s.byteAt (s.r.iptr + BitVec.ofNat 32 k)).extractLsb' 4 4 = 2#4 ∨
      (s.byteAt (s.r.iptr + BitVec.ofNat 32 k)).extractLsb' 4 4 = 6#4) →
    (s.byteAt (s.r.iptr + BitVec.ofNat 32 n)).extractLsb' 4 4 ≠ 2#4 →
    (s.byteAt (s.r.iptr + BitVec.ofNat 32 n)).extractLsb' 4 4 ≠ 6#4 →
    s.fetched = .bytes ((List.range (n + 1)).map fun k => s.byteAt (s.r.iptr + BitVec.ofNat 32 k))

/-! ## Integer instructions (40_integer.md) -/

/-- The pushes that are not privileged (R161, R164, R165, R209, 42 R334, R353, 44 R470, 47 R674, R675), the instructions
that replace Areg or rearrange the stack (R168, R169, R190, R197, R198, R200, R207, R218, R220, R221, R226, R236), and
the unchecked dyadic ones (R184, R185, R187 to R189, R191 to R196, R201 to R203). That `norm` of zero gives 64 is the
decision D31 (log 1), and what the device identifier is Config's (D6, log 56). -/
def Obligations.PlainIntegerInstructions : Prop := ∀ s : State, s.calm →
  (∀ n : Word, Pushes s (.ldc n) n) ∧
  (∀ n : Word, Pushes s (.ldlp n) ((s.r.wdesc &&& 0xFFFFFFFC#32) + 4#32 * n)) ∧
  Pushes s .mint 0x80000000#32 ∧
  Pushes s .dup s.r.areg ∧
  Pushes s .ldpri (s.r.wdesc &&& 1#32) ∧
  Pushes s .ldtimer (if s.r.wdesc.getLsbD 0 then s.lo.clock else s.hi.clock) ∧
  Pushes s .ldflags (s.r.status &&& 0x000BFFCC#32) ∧
  Pushes s .lddevid Config.deviceId ∧
  Pushes s .ldprodid Config.deviceId ∧
  ((∀ n : Word, SetsA s (.ldnlp n) (s.r.areg + 4#32 * n)) ∧
  (∀ n : Word, SetsA s (.eqc n) (if s.r.areg = n then 1#32 else 0#32)) ∧
  SetsA s .ldpi (s.r.iptr + s.r.areg) ∧
  SetsA s .not (~~~ s.r.areg) ∧
  SetsA s .bcnt (s.r.areg * 4#32) ∧
  SetsA s .xbword (BitVec.signExtend 32 (s.r.areg.setWidth 8)) ∧
  SetsA s .xsword (BitVec.signExtend 32 (s.r.areg.setWidth 16)) ∧
  (∃ v : Word, SetsA s .bitrevword v ∧ ∀ i : Nat, i < 32 → v.getLsbD i = s.r.areg.getLsbD (31 - i)) ∧
  SetsABC s .rev s.r.breg s.r.areg s.r.creg ∧
  SetsABC s .wcnt (BitVec.ofInt 32 ((s.r.areg &&& 0xFFFFFFFC#32).toInt / 4)) (s.r.areg &&& 3#32) s.r.breg ∧
  SetsABC s .xdble s.r.areg (if s.r.areg.slt 0#32 then 0xFFFFFFFF#32 else 0#32) s.r.breg ∧
  (s.r.areg = 0#32 → s.r.breg = 0#32 → SetsABC s .norm 0#32 0#32 64#32) ∧
  (¬(s.r.areg = 0#32 ∧ s.r.breg = 0#32) → ∃ (a b : Word) (k : Nat), k < 64 ∧ SetsABC s .norm a b (BitVec.ofNat 32 k) ∧
    b.getLsbD 31 = true ∧
    b.toNat * 2 ^ 32 + a.toNat = (s.r.breg.toNat * 2 ^ 32 + s.r.areg.toNat) * 2 ^ k)) ∧
  Pops s .pop ∧
  Dyadic s .sum (s.r.breg + s.r.areg) ∧
  Dyadic s .diff (s.r.breg - s.r.areg) ∧
  Dyadic s .prod (s.r.areg * s.r.breg) ∧
  Dyadic s .and (s.r.breg &&& s.r.areg) ∧
  Dyadic s .or (s.r.breg ||| s.r.areg) ∧
  Dyadic s .xor (s.r.breg ^^^ s.r.areg) ∧
  Dyadic s .bsub (s.r.areg + s.r.breg) ∧
  Dyadic s .ssub (s.r.areg + 2#32 * s.r.breg) ∧
  Dyadic s .wsub (s.r.areg + 4#32 * s.r.breg) ∧
  Dyadic s .wsubdb (s.r.areg + 8#32 * s.r.breg) ∧
  Dyadic s .gt (if s.r.areg.toInt < s.r.breg.toInt then 1#32 else 0#32) ∧
  Dyadic s .gtu (if s.r.areg.toNat < s.r.breg.toNat then 1#32 else 0#32) ∧
  (∀ k : Nat, k < 32 → s.r.areg = BitVec.ofNat 32 k →
    Dyadic s .shl (s.r.breg <<< k) ∧ Dyadic s .shr (s.r.breg >>> k)) ∧
  (¬ s.r.areg.toNat < 32 → Dyadic s .shl 0#32 ∧ Dyadic s .shr 0#32)

/-- The bit and CRC instructions, and `xword`: R228, R235, R237 to R239. A result the spec leaves undefined is any
value, and the instruction goes on: `bitrevnbits` beyond 32 bits by the decision D33 (log 1), `xword` of an operand that
is no power of two by the model's choice (log 40). -/
def Obligations.BitAndCrcInstructions : Prop := ∀ s : State, s.calm →
  Dyadic s .bitcnt (s.r.breg + BitVec.ofNat 32 ((List.range 32).countP fun i => s.r.areg.getLsbD i)) ∧
  (∃ t : Nat → Word, t 0 = s.r.breg ∧
    (∀ i : Nat, i < 32 → t (i + 1) = ((t i <<< 1) + (if s.r.areg.getLsbD (31 - i) then 1#32 else 0#32)) ^^^
      (if (t i).getLsbD 31 then s.r.creg else 0#32)) ∧
    Dyadic s .crcbyte (t 8) ∧ Dyadic s .crcword (t 32)) ∧
  (∀ n : Nat, n ≤ 32 → s.r.areg = BitVec.ofNat 32 n →
    ∃ v : Word, Dyadic s .bitrevnbits v ∧
      ∀ i : Nat, v.getLsbD i = (decide (i < n) && s.r.breg.getLsbD (n - 1 - i))) ∧
  (¬ s.r.areg.toNat ≤ 32 → DyadicAny s .bitrevnbits) ∧
  (∀ n : Nat, 0 < n → n ≤ 32 → s.r.areg = BitVec.ofNat 32 (2 ^ (n - 1)) → s.r.breg.toNat < 2 ^ n →
    Dyadic s .xword (BitVec.signExtend 32 (s.r.breg.setWidth n))) ∧
  DyadicAny s .xword

/-- The unsigned multiple length instructions: R212 to R217. -/
def Obligations.LongUnsignedInstructions : Prop := ∀ s : State, s.calm →
  (∃ a b : Word, TwoResults s .lsum a b ∧ b.toNat ≤ 1 ∧
    a.toNat + 2 ^ 32 * b.toNat = s.r.areg.toNat + s.r.breg.toNat + s.r.creg.toNat % 2) ∧
  (∃ a b : Word, TwoResults s .ldiff a b ∧ b.toNat ≤ 1 ∧
    a.toNat + s.r.areg.toNat + s.r.creg.toNat % 2 = s.r.breg.toNat + 2 ^ 32 * b.toNat) ∧
  (∃ a b : Word, TwoResults s .lmul a b ∧
    a.toNat + 2 ^ 32 * b.toNat = s.r.breg.toNat * s.r.areg.toNat + s.r.creg.toNat) ∧
  (∃ a b : Word, TwoResults s .lshl a b ∧
    a.toNat + 2 ^ 32 * b.toNat = (s.r.creg.toNat * 2 ^ 32 + s.r.breg.toNat) * 2 ^ s.r.areg.toNat % 2 ^ 64) ∧
  (∃ a b : Word, TwoResults s .lshr a b ∧
    a.toNat + 2 ^ 32 * b.toNat = (s.r.creg.toNat * 2 ^ 32 + s.r.breg.toNat) / 2 ^ s.r.areg.toNat)

/-- A checked instruction whose exact result fits a word completes with it (R178 to R183, R205, R206, R210, R211,
R186). -/
def Obligations.CheckedArithmeticWithoutOverflow : Prop := ∀ s : State, s.calm →
  let a := s.r.areg.toInt
  let b := s.r.breg.toInt
  let c : Int := s.r.creg.toNat % 2
  (∀ n : Word, Fits (a + n.toInt) → SetsA s (.adc n) (BitVec.ofInt 32 (a + n.toInt))) ∧
  (Fits (b + a) → Dyadic s .add (BitVec.ofInt 32 (b + a))) ∧
  (Fits (b - a) → Dyadic s .sub (BitVec.ofInt 32 (b - a))) ∧
  (Fits (b * a) → Dyadic s .mul (BitVec.ofInt 32 (b * a))) ∧
  (Fits (a + b + c) → OneResult s .ladd (BitVec.ofInt 32 (a + b + c))) ∧
  (Fits (b - a - c) → OneResult s .lsub (BitVec.ofInt 32 (b - a - c))) ∧
  (a ≠ 0 → Fits (b.tdiv a) → Dyadic s .div (BitVec.ofInt 32 (b.tdiv a))) ∧
  (a ≠ 0 → Dyadic s .rem (BitVec.ofInt 32 (b.tmod a))) ∧
  (¬(a = -2147483648 ∧ b = -2147483648) → ∃ q : Int, Dyadic s .fmul (BitVec.ofInt 32 q) ∧
    2 * (b * a - q * 2147483648) ≤ 2147483648 ∧ -2147483648 ≤ 2 * (b * a - q * 2147483648) ∧
    ((2 * (b * a - q * 2147483648) = 2147483648 ∨ 2 * (b * a - q * 2147483648) = -2147483648) → q % 2 = 0)) ∧
  (s.r.creg.toNat < s.r.areg.toNat →
    TwoResults s .ldiv (BitVec.ofNat 32 ((s.r.creg.toNat * 2 ^ 32 + s.r.breg.toNat) / s.r.areg.toNat))
      (BitVec.ofNat 32 ((s.r.creg.toNat * 2 ^ 32 + s.r.breg.toNat) % s.r.areg.toNat)))

/-- An overflow (R178 (a), R205, R206, R186, R215; 60 R707): with IntegerOverflow not trapped it sets sb.IntOvFlag and the
instruction completes with the wrapped result, or with any result where the spec gives none; with sb.IntOvTeBit set it
traps. -/
def Obligations.OverflowSetsTheFlagOrTraps : Prop :=
  (∀ s : State, s.calm → s.r.status.getLsbD 7 = false →
    let a := s.r.areg.toInt
    let b := s.r.breg.toInt
    let c : Int := s.r.creg.toNat % 2
    let f := { s.r with status := s.r.status ||| 0x40#32 }
    (∀ n : Word, ¬Fits (a + n.toInt) →
      exec (.adc n) s = .next { s with r := { f with areg := BitVec.ofInt 32 (a + n.toInt) } }) ∧
    (¬Fits (b + a) → ∃ (z : Word) (d : Nat), exec .add s = .next { s with
      r := { f with areg := BitVec.ofInt 32 (b + a), breg := s.r.creg, creg := z }, draws := d }) ∧
    (¬Fits (b - a) → ∃ (z : Word) (d : Nat), exec .sub s = .next { s with
      r := { f with areg := BitVec.ofInt 32 (b - a), breg := s.r.creg, creg := z }, draws := d }) ∧
    (¬Fits (b * a) → ∃ (z : Word) (d : Nat), exec .mul s = .next { s with
      r := { f with areg := BitVec.ofInt 32 (b * a), breg := s.r.creg, creg := z }, draws := d }) ∧
    (¬Fits (a + b + c) → ∃ (y z : Word) (d : Nat), exec .ladd s = .next { s with
      r := { f with areg := BitVec.ofInt 32 (a + b + c), breg := y, creg := z }, draws := d }) ∧
    (¬Fits (b - a - c) → ∃ (y z : Word) (d : Nat), exec .lsub s = .next { s with
      r := { f with areg := BitVec.ofInt 32 (b - a - c), breg := y, creg := z }, draws := d }) ∧
    (a = 0 ∨ (a = -1 ∧ b = -2147483648) → ∃ (x z : Word) (d : Nat), exec .div s = .next { s with
      r := { f with areg := x, breg := s.r.creg, creg := z }, draws := d }) ∧
    (a = 0 → ∃ (x z : Word) (d : Nat), exec .rem s = .next { s with
      r := { f with areg := x, breg := s.r.creg, creg := z }, draws := d }) ∧
    (a = -2147483648 ∧ b = -2147483648 → ∃ (x z : Word) (d : Nat), exec .fmul s = .next { s with
      r := { f with areg := x, breg := s.r.creg, creg := z }, draws := d }) ∧
    (¬ s.r.creg.toNat < s.r.areg.toNat → ∃ (x y z : Word) (d : Nat), exec .ldiv s = .next { s with
      r := { f with areg := x, breg := y, creg := z }, draws := d })) ∧
  (∀ s : State, s.cpuMode = .whole → s.r.status.getLsbD 7 = true →
    let a := s.r.areg.toInt
    let b := s.r.breg.toInt
    let c : Int := s.r.creg.toNat % 2
    let traps (i : Instr) : Prop := Traps s (exec i s) .error .error (s.r.isP && s.r.watch) 6#32
    (∀ n : Word, ¬Fits (a + n.toInt) → traps (.adc n)) ∧
    (¬Fits (b + a) → traps .add) ∧ (¬Fits (b - a) → traps .sub) ∧ (¬Fits (b * a) → traps .mul) ∧
    (¬Fits (a + b + c) → traps .ladd) ∧ (¬Fits (b - a - c) → traps .lsub) ∧
    (a = 0 ∨ (a = -1 ∧ b = -2147483648) → traps .div) ∧ (a = 0 → traps .rem) ∧
    (a = -2147483648 ∧ b = -2147483648 → traps .fmul) ∧ (¬ s.r.creg.toNat < s.r.areg.toNat → traps .ldiv))

/-- The range and length checks: one that passes (R222 to R225, R227, R229 to R233), and one that fails, which traps with
IntegerError whatever the trap-enable bits (60 R704, class F of R730). `cword` with Areg the most negative integer passes
by the decision D32 (log 1); what it delivers, and when it fails, for another Areg that is no power of two is the model's
choice (log 40). With them the other instructions that signal IntegerError: `causeerror` (44 R473), `tret` (R467), `ldconf`
and `stconf` of an address that is not assigned, of a single copy, of a register that is only written (but #0212 and #0416: log
60) or only read, or that is locked (47 R672), `ldcnt` after a message that was too long (43 R396), `vin` with the greatest count (43 R394), `sethdr`,
`writehdr`, `readhdr` and `setchmode` on the other operands that R652 to R654 and R661 name, and every instruction on a channel
whose address is no channel of a kind that it takes (43 R383, 47 R650). -/
def Obligations.RangeAndLengthChecks : Prop :=
  (∀ s : State, s.calm →
    let a := s.r.areg.toInt
    let b := s.r.breg.toInt
    let c := s.r.creg.toInt
    (-128 ≤ a ∧ a < 128 → exec .cb s = .next s) ∧
    (0 ≤ a ∧ a < 256 → exec .cbu s = .next s) ∧
    (-32768 ≤ a ∧ a < 32768 → exec .cs s = .next s) ∧
    (0 ≤ a ∧ a < 65536 → exec .csu s = .next s) ∧
    ((0 ≤ a ∧ s.r.breg = 0#32) ∨ (a < 0 ∧ s.r.breg = 0xFFFFFFFF#32) → Dyadic s .csngl s.r.areg) ∧
    (∀ n : Nat, 0 < n → n < 32 → a = 2 ^ (n - 1) → -(2 ^ (n - 1)) ≤ b → b < 2 ^ (n - 1) → Dyadic s .cword s.r.breg) ∧
    (s.r.areg = 0x80000000#32 → Dyadic s .cword s.r.breg) ∧
    (-a ≤ b ∧ b < a → DyadicAny s .cword) ∧
    (s.r.breg.toNat < s.r.areg.toNat → Dyadic s .csub0 s.r.breg) ∧
    (0 < s.r.breg.toNat ∧ s.r.breg.toNat ≤ s.r.areg.toNat → Dyadic s .ccnt1 s.r.breg) ∧
    (a ≤ c ∧ c ≤ b → OneResult s .cir s.r.creg) ∧
    (s.r.areg.toNat ≤ s.r.creg.toNat ∧ s.r.creg.toNat ≤ s.r.breg.toNat → OneResult s .ciru s.r.creg)) ∧
  (∀ s : State, s.cpuMode = .whole →
    let a := s.r.areg.toInt
    let b := s.r.breg.toInt
    let c := s.r.creg.toInt
    let fails (i : Instr) : Prop := Traps s (exec i s) .error .error (s.r.isP && s.r.watch) 5#32
    (a < -128 ∨ 128 ≤ a → fails .cb) ∧
    (a < 0 ∨ 256 ≤ a → fails .cbu) ∧
    (a < -32768 ∨ 32768 ≤ a → fails .cs) ∧
    (a < 0 ∨ 65536 ≤ a → fails .csu) ∧
    (¬((0 ≤ a ∧ s.r.breg = 0#32) ∨ (a < 0 ∧ s.r.breg = 0xFFFFFFFF#32)) → fails .csngl) ∧
    (s.r.areg ≠ 0x80000000#32 → (b < -a ∨ a ≤ b) → fails .cword) ∧
    (s.r.areg.toNat ≤ s.r.breg.toNat → fails .csub0) ∧
    (s.r.breg = 0#32 ∨ s.r.areg.toNat < s.r.breg.toNat → fails .ccnt1) ∧
    (c < a ∨ b < c → fails .cir) ∧
    (s.r.creg.toNat < s.r.areg.toNat ∨ s.r.breg.toNat < s.r.creg.toNat → fails .ciru) ∧
    (13 < s.r.areg.toNat → fails .causeerror) ∧
    (s.r.isP = false → s.r.th ≠ 0x80000000#32 → fails .tret) ∧
    (s.r.isP = false → 0xFFFF < s.r.areg.toNat ∨ s.confRead s.r.areg = none ∨
      s.r.areg ∈ [0x010E#32, 0x2002#32, 0x2005#32, 0x8002#32, 0x8102#32, 0x8202#32, 0x8302#32, 0xFD02#32, 0xFE02#32] →
      fails .ldconf) ∧
    (s.r.isP = false → 0xFFFF < s.r.areg.toNat ∨ s.confWrite s.r.areg s.r.breg = .invalid ∨ s.confLocked s.r.areg = true ∨
      s.r.areg ∈ [0x010E#32, 0x0213#32, 0x1001#32, 0x1002#32, 0x1004#32, 0x8003#32, 0x8103#32, 0x8203#32, 0x8303#32, 0xFD03#32,
        0xFE03#32] → fails .stconf) ∧
    (s.r.isP = false → s.wordAt (s.w - 16#32) = 0xFFFFFFFF#32 → fails .ldcnt) ∧
    (s.r.isP = false → s.WordOperand s.r.breg →
      let k := s.kind (s.r.breg &&& 0xFFFFFFFC#32)
      (k = .invalid → (∀ i ∈ [Instr.input, .output, .outbyte, .outword, .vin, .vout], fails i) ∧
        (s.r.areg ≠ 0#32 → fails .enbc)) ∧
      (s.r.areg = 0xFFFFFFFF#32 → fails .vin)) ∧
    (s.r.isP = false → s.WordOperand s.r.creg → s.r.breg ≠ 0#32 → s.kind (s.r.creg &&& 0xFFFFFFFC#32) = .invalid →
      fails .disc) ∧
    (s.r.isP = false → s.WordOperand s.r.areg →
      let k := s.kind (s.r.areg &&& 0xFFFFFFFC#32)
      (k = .invalid → fails .resetch ∧ fails .chantype) ∧
      (k = .invalid ∨ (∃ n : Nat, k = .byteStream n ∨ k = .virt n true) →
        ∀ i ∈ [Instr.mkrc, .unmkrc, .ldresptr, .stresptr], fails i) ∧
      (k = .invalid ∨ k = .internal → fails .setchmode ∧ fails .ldchstatus) ∧
      (1 < s.r.breg.toNat → fails .setchmode) ∧
      (∀ (n : Nat) (out : Bool), k = .virt n out → s.vcp.mode ≠ .resetting →
        let v := s.vlcb n
        (3 < s.r.breg.toNat → s.r.breg ≠ 0xFFFFFFFF#32 ∨ v.inp.active = true ∨ v.out.active = true → fails .sethdr) ∧
        (s.r.breg.toNat ≤ 3 → 0xFFFE < s.r.creg.toNat → s.r.creg ≠ 0xFFFFFFFF#32 → fails .sethdr) ∧
        (s.r.breg = 0#32 ∨ 0xFF < s.r.breg.toNat ∨ (3 < s.r.breg.toNat ∧ v.offset = 0xFFFFFFFF#32) → fails .writehdr) ∧
        (v.null = true ∨ s.r.breg ≠ v.hlen.setWidth 32 → fails .readhdr) ∧
        (s.r.breg = 1#32 → v.null = true → fails .setchmode)) ∧
      ((∀ (n : Nat) (out : Bool), k ≠ .virt n out) →
        (∀ i ∈ [Instr.stopch, .sethdr, .writehdr, .readhdr, .insphdr, .readbfr], fails i) ∧
        (s.WordOperand s.r.breg → fails .initvlcb ∧ fails .swapbfr)) ∧
      (∀ n : Nat, k = .virt n true → fails .readbfr ∧ (s.WordOperand s.r.breg → fails .swapbfr))))


/-! ## Errors and traps (60_exceptions.md) -/

/-- A privileged instruction in a P-process traps with PrivInstruction, has no other effect, and EptrReg points at
the instruction after it (44_protection_trap.md R452, 60 R708): class G of R730. -/
def Obligations.PrivilegedInstructionsTrap : Prop := ∀ s : State, s.cpuMode = .whole → s.r.isP = true →
  ∀ i ∈ privilegedInstrs,
    Traps { s with r := { s.r with eptr := s.r.iptr } } (exec i s) .before .error s.r.watch 1#32

/-- An operand that cannot be used traps. With sb.UnalignTeBit set a misaligned address operand: Unalign (20_memory.md R84,
60 R705). An access of a P-process that its regions do not admit: AccessViolation (20_memory.md R122, R124; 60 R709); a load
or store is not restartable, the check of a new Wptr is. -/
def Obligations.OperandsThatTrap : Prop :=
  (∀ s : State, s.cpuMode = .whole → s.r.status.getLsbD 19 = true →
    let traps (i : Instr) : Prop := Traps s (exec i s) .error .error (s.r.isP && s.r.watch) 3#32
    (s.r.areg &&& 3#32 ≠ 0#32 → (∀ n : Word, traps (.ldnl n) ∧ traps (.stnl n)) ∧
      (∀ i ∈ [Instr.gajw, .devlw, .devsw, .stmove2dinit, .fpldnlsn, .fpldnldb, .fpldnlsni, .fpldnldbi, .fpstnlsn,
        .fpstnldb, .fpstnli32, .fpstall, .fpldall, .fpldnladdsn, .fpldnladddb, .fpldnlmulsn, .fpldnlmuldb,
        .fpi32tor32, .fpi32tor64, .fpb32tor64], traps i) ∧
      (s.r.isP = false → ∀ i ∈ [Instr.startp, .endp, .signal, .wait, .grant, .erdsq, .irdsq, .mkrc, .unmkrc,
        .ldresptr, .stresptr, .resetch, .stopch, .chantype, .restart, .selth, .sethdr, .writehdr, .readhdr, .insphdr,
        .readbfr, .setchmode, .ldchstatus], traps i)) ∧
    (s.r.areg &&& 1#32 ≠ 0#32 → ∀ i ∈ [Instr.ls, .lsx, .ss, .devls, .devss], traps i) ∧
    (s.r.breg &&& 3#32 ≠ 0#32 → traps .lend ∧
      (s.r.isP = false → ∀ i ∈ [Instr.input, .output, .outbyte, .outword, .vin, .vout, .initvlcb, .swapbfr,
        .goprot], traps i)) ∧
    (s.r.creg &&& 3#32 ≠ 0#32 → s.r.isP = false → traps .ldshadow ∧ traps .stshadow)) ∧
  (∀ s : State, s.cpuMode = .whole →
    let fails (i : Instr) : Prop := Traps s (exec i s) .error .error (s.r.isP && s.r.watch) 4#32
    (∀ n : Word, s.r.translate false .read (s.w + 4#32 * n) = .violation → fails (.ldl n)) ∧
    (∀ n : Word, s.r.translate false .write (s.w + 4#32 * n) = .violation → fails (.stl n)) ∧
    (∀ n : Word, s.r.areg &&& 3#32 = 0#32 → s.r.translate false .read (s.r.areg + 4#32 * n) = .violation →
      fails (.ldnl n)) ∧
    (∀ n : Word, s.r.areg &&& 3#32 = 0#32 → s.r.translate false .write (s.r.areg + 4#32 * n) = .violation →
      fails (.stnl n)) ∧
    (s.r.translate false .read s.r.areg = .violation → fails .lb ∧ fails .lbx) ∧
    (s.r.translate false .write s.r.areg = .violation → fails .sb ∧ fails .fdca ∧ fails .ica) ∧
    (s.r.translate true .read s.r.areg = .violation → fails .devlb) ∧
    (s.r.translate true .write s.r.areg = .violation → fails .devsb) ∧
    (s.r.translate false .read s.w = .violation → fails .ret) ∧
    (∀ n : Word, s.r.translate false .write (s.w + 4#32 * n) = .violation →
      Traps s (exec (.ajw n) s) .before .error (s.r.isP && s.r.watch) 4#32) ∧
    (∀ n : Word, s.r.translate false .write (s.w - 16#32) = .violation →
      Traps s (exec (.call n) s) .before .error (s.r.isP && s.r.watch) 4#32) ∧
    (s.r.areg &&& 3#32 = 0#32 → s.r.translate false .write s.r.areg = .violation →
      Traps s (exec .gajw s) .before .error (s.r.isP && s.r.watch) 4#32))

/-- Taking a trap in an L-process with a handler: the step goes on in the handler (60 R720). That interrupts are enabled after
it is the decision D47 of that rule, log 1. -/
def Obligations.TrapEntersTheHandler : Prop := ∀ (s : State) (sv : Saves) (reason et : Word), s.HandlerReady →
  ∃ t : State, (s.takeTrap sv reason et).done = .next t ∧ EntersHandler s t sv reason et

/-- Taking a trap in a P-process: the step goes on in its supervisor (60 R724), whose status comes from its own trap-handler
or, where that is null, from the default control word (10_state.md R31). That the region and P-state registers keep their
values is the model's reading (log 50); that interrupts are enabled after it is the decision D47 of R720, log 1. -/
def Obligations.TrapEntersTheSupervisor : Prop := ∀ (s : State) (sv : Saves) (reason et : Word), s.SupervisorReady →
  ∃ t : State, (s.takeTrap sv reason et).done = .next t ∧ EntersSupervisor s t sv reason et

/-- A trap of an L-process whose trap-handler is null halts the processor (60 R716, R740): the reason is in the
Reason register, ErrorSinceReset is set, the registers are as they were, and the CPU executes nothing more. -/
def Obligations.NullTrapHalts : Prop := ∀ (s : State) (sv : Saves) (reason et : Word), s.trouble = none →
  s.r.isP = false → s.r.th = 0x80000000#32 → s.conf.standAloneMode = false →
  ∃ t : State, (s.takeTrap sv reason et).done = .next t ∧ t.conf.reason = reason ∧ t.ctl.haltError = et ∧
    t.conf.errorSinceReset = true ∧ t.ctl.gross = .error ∧ t.r = s.r ∧ t.mem = s.mem ∧ t.hi = s.hi ∧ t.lo = s.lo ∧
    (∀ u : State, t.agenda = [] → t.cache.waiting = false → step t = .next u → u.r = t.r ∧ u.mem = t.mem)

/-- The instructions whose own effect is a trap, in an L-process with a handler: an unassigned operation code
(30_encoding.md R137, class G), `syscall` (44 R472), `causeerror` (R473) and the breakpoint `j 0` (R480), class B. A
pending watchpoint is in none of their reasons: no combined code exists (60 R702), and that one pending at `syscall`,
`causeerror` and `j 0` is dropped is the model's choice (log 71). That interrupts are enabled after it is the decision D47 of
R720, log 1. -/
def Obligations.InstructionsThatTrap : Prop := ∀ s : State, s.HandlerReady → s.cpuMode = .whole →
  let reason (k : Nat) : Word := BitVec.ofNat 32 ((if s.r.status.getLsbD 26 then 16 else 0) + 2 * k)
  (∀ c : Word, (opInstr? c).isNone = true →
    ∃ t : State, exec (.opr c) s = .next t ∧ EntersHandler s t .before (reason 0) 2#32) ∧
  (∃ t : State, exec .syscall s = .next t ∧ EntersHandler s t .after (reason 4) 0#32) ∧
  (s.r.areg.toNat ≤ 13 →
    ∃ t : State, exec .causeerror s = .next t ∧ EntersHandler s t .after (reason 6) s.r.areg) ∧
  (∃ t : State, exec (.j 0#32) s = .next t ∧ EntersHandler s t .after (reason 1) 0#32)

/-- At the end of an instruction a single-step or a pending watchpoint traps with the state after it (60 R718, class A; 44
R485), which is the state that the instruction leaves where neither is due: here for the integer instructions that neither
signal nor store, `cj` and `gcall` among them. A store to a watched word sets sb.WtchPntPend and traps so (R484). Where a
timeslice of a P-process is due at the end of an instruction the trap is the timeslice trap (R463), its error pointer any
value, and so it is where it falls due before the next instruction or inside an interrupted one (42 R352), and where a
P-process of either priority executes `timeslice`, due or not (R463, 42 R347); whatever the instruction, its end is
`State.finish` (log 62). Where the process is descheduled instead the trap is the deschedule trap, taken when the instruction
has had all its effect (R486 (a)): here for `stopp`, and for `in` and `out` on an idle internal channel. `goprot`, `restart`
and `selth` only save, and the trap is the context trap (R486 (b)), its watchpoint pending or that of the save in th.Cntl
(that the store of pw.Iptr by `goprot` is not watched is log 61); that interrupts are enabled after it is the decision D47 of
R720, log 1. -/
def Obligations.EndOfInstructionTraps : Prop :=
  (∀ s : State, s.trouble = none → (s.r.isP = true → s.timesliceDue = false) →
    s.r.status.getLsbD 26 = true ∨ s.r.status.getLsbD 30 = true →
    let quiet : State := { s with r := { s.r with status := s.r.status &&& 0xBBFFFFFF#32 } }
    let ends (i : Instr) : Prop := ∀ u : State, exec i quiet = .next u →
      Traps { u with r := { u.r with status := s.r.status } } (exec i s) .after .none s.r.watch 0#32
    (∀ n : Word, ends (.ldc n) ∧ ends (.ldlp n) ∧ ends (.ldnlp n) ∧ ends (.eqc n) ∧ ends (.cj n)) ∧
    ∀ i ∈ [Instr.nop, .rev, .dup, .pop, .mint, .sum, .diff, .prod, .and, .or, .xor, .not, .shl, .shr, .gt, .gtu, .bcnt,
      .wcnt, .bsub, .ssub, .wsub, .wsubdb, .ldpi, .ldpri, .ldtimer, .xbword, .xsword, .xword, .xdble, .norm, .lsum,
      .ldiff, .lmul, .lshl, .lshr, .bitcnt, .bitrevword, .bitrevnbits, .crcword, .crcbyte, .gcall, .lddevid, .ldprodid],
      ends i) ∧
  (∀ (s : State) (n p : Word), s.calm → s.mem.wf = true →
    s.CanWrite false (s.w + 4#32 * n) p → s.watches (s.w + 4#32 * n) = true →
    ∃ u : State, Traps u (exec (.stl n) s) .after .none true 0#32 ∧
      u.r = { s.r with areg := s.r.breg, breg := s.r.creg, creg := u.r.creg, status := s.r.status ||| 0x40000000#32 } ∧
      u.wordAt p = s.r.areg ∧ SameOutside s u p 4 ∧ OnlyStore s u) ∧
  (∀ s t : State, t.trouble = none →
    (t.r.isP = true → t.timesliceDue = true → ∃ (e : Word) (d : Nat), s.finish t =
      ({ t with r := { t.r with eptr := e }, draws := d }.takeTrap .after
        (BitVec.ofNat 32 ((if s.r.status.getLsbD 26 then 16 else 0) + 6 + (if t.r.watch then 1 else 0))) 0#32).done) ∧
    ((t.r.isP = true → t.timesliceDue = false) → s.r.status.getLsbD 26 = true ∨ t.r.watch = true → s.finish t =
      (t.takeTrap .after
        (BitVec.ofNat 32 ((if s.r.status.getLsbD 26 then 16 else 0) + 4 + (if t.r.watch then 1 else 0))) 0#32).done) ∧
    ((t.r.isP = true → t.timesliceDue = false) → s.r.status.getLsbD 26 = false → t.r.watch = false →
      s.finish t = .next t)) ∧
  (∀ s : State, s.agenda = [] → s.inChain = false → s.cache.waiting = false → s.cpuRuns = true → s.trouble = none →
    s.interruptDue = false → s.r.wdesc ≠ 0x80000000#32 → s.r.isP = true → s.timesliceDue = true →
    ∃ (e : Word) (d : Nat), step s = ({ s with cpuMode := .whole, r := { s.r with eptr := e }, draws := d }.takeTrap .after
      (BitVec.ofNat 32 ((if s.r.midInstr && s.r.step then 16 else 0) + 6 + (if s.r.watch then 1 else 0))) 0#32).done) ∧
  (∀ s : State, s.r.isP = true →
    let reason : Word := BitVec.ofNat 32 ((if s.r.status.getLsbD 26 then 16 else 0) + 6 + (if s.r.watch then 1 else 0))
    (∃ (e : Word) (d : Nat), exec .timeslice s =
      ({ s with r := { s.r with eptr := e }, draws := d }.takeTrap .after reason 0#32).done) ∧
    (s.SupervisorReady → ∃ (e : Word) (t : State), exec .timeslice s = .next t ∧
      EntersSupervisor { s with r := { s.r with eptr := e } } t .after reason 0#32)) ∧
  (∀ s : State, s.HandlerReady → s.cpuMode = .whole → s.r.status.getLsbD 26 = true ∨ s.r.status.getLsbD 30 = true →
    let h := s.r.th
    let apart (a : Word) : Prop := s.Plain a ∧ ∀ k : Nat, k < 12 → a ≠ h + BitVec.ofNat 32 (4 * k)
    let reason : Word := BitVec.ofNat 32 ((if s.r.status.getLsbD 26 then 16 else 0) + 10 + (if s.r.watch then 1 else 0))
    let leaves (i : Instr) (ws : List (Word × Word)) : Prop := ∃ u t : State, exec i s = .next t ∧ Saved s u ∧
      (∀ x ∈ ws, u.wordAt x.1 = x.2) ∧ SameBut s u ([s.w - 4#32, s.w - 12#32, h] ++ ws.map Prod.fst) ∧
      OnlyStore { s with intEnabled := true, temps := u.temps } u ∧ (∀ x : Word, x ≠ s.r.wdesc → (x ∈ u.temps ↔ x ∈ s.temps)) ∧
      u.r = { u.r with
        wdesc := s.r.wdesc, iptr := s.r.iptr, th := h, status := s.r.status, eptr := s.r.eptr, region := s.r.region
        pstate := s.r.pstate, wstub := s.r.wstub } ∧
      EntersHandler u { t with descheduled := t.descheduled.tail } .descheduled reason 0#32 ∧ t.descheduled.head? = some h
    apart (s.w - 4#32) → apart (s.w - 12#32) → leaves .stopp [] ∧
    (s.WordOperand s.r.breg → s.r.status.getLsbD 29 = false → s.resuming = false →
      let c := s.r.breg &&& 0xFFFFFFFC#32
      s.kind c = .internal → s.wordAt c = 0x80000000#32 → apart c → apart (s.w - 16#32) →
      [c, s.w - 4#32, s.w - 12#32, s.w - 16#32].Nodup →
      leaves .input [(c, s.r.wdesc), (s.w - 16#32, s.r.creg)] ∧ leaves .output [(c, s.r.wdesc), (s.w - 16#32, s.r.creg)])) ∧
  (∀ s : State, s.HandlerReady → s.cpuMode = .whole →
    let h := s.r.th
    let watch := s.r.watch || s.watches h
    let reason : Word := BitVec.ofNat 32 ((if s.r.status.getLsbD 26 then 16 else 0) + 14 + (if watch then 1 else 0))
    let delivers (i : Instr) (ws : List (Word × Word)) : Prop := ∃ u t : State, exec i s = .next t ∧
      (∀ x ∈ ws, u.wordAt x.1 = x.2) ∧ SameBut s u (h :: ws.map Prod.fst) ∧ OnlyStore s u ∧
      u.r = { s.r with status := if s.watches h then s.r.status ||| 0x40000000#32 else s.r.status } ∧
      EntersHandler u t .after reason 0#32
    s.r.status.getLsbD 26 = true ∨ watch = true → s.r.areg &&& 3#32 = 0#32 → delivers .restart [] ∧ delivers .selth [] ∧
    (s.r.breg &&& 3#32 = 0#32 → s.Plain (s.w - 4#32) → (∀ k : Nat, k < 12 → s.w - 4#32 ≠ h + BitVec.ofNat 32 (4 * k)) →
      delivers .goprot [(s.w - 4#32, s.r.iptr)]))

/-! ## Loads, stores, jumps and the workspace (40_integer.md sections 2 to 4, 41_control_blockmove.md) -/

/-- The loads, from whatever physical address their logical address reaches (R162, R166, R170 to R173; 41 R275 to
R277): a misaligned operand that does not trap is re-aligned (20_memory.md R84). `ldl` reads memory where no other
agent has written the workspace (20_memory.md R104). A device load finds what `State.devWord` says (R111): external memory,
or a word that is dirty in the cache (log 15), and fetches nothing into it. Another load that misses the cache fetches the
block, clean (20_memory.md R106); that the line has no row until the refill engine moves is log 15. -/
def Obligations.LoadsReadMemory : Prop := ∀ (s : State) (p : Word), s.calm →
  let u := s.readMiss p
  let loads (i : Instr) (v : Word) : Prop := exec i s = .next { u with r := { s.r with areg := v } }
  (∀ n : Word, s.CanRead false (s.w + 4#32 * n) p → s.ws.stale = [] → ∃ (x : State) (ws : WsCache), (x = s ∨ x = u) ∧
    exec (.ldl n) s = .next { x with r := { s.r with areg := s.wordAt p, breg := s.r.areg, creg := s.r.breg }, ws := ws }) ∧
  (∀ n : Word, s.WordOperand s.r.areg → s.CanRead false ((s.r.areg &&& 0xFFFFFFFC#32) + 4#32 * n) p →
    loads (.ldnl n) (s.wordAt p)) ∧
  (s.CanRead false s.r.areg p → loads .lb (BitVec.setWidth 32 (s.byteAt p)) ∧
    loads .lbx (BitVec.signExtend 32 (s.byteAt p))) ∧
  (s.HalfOperand s.r.areg → s.CanRead false (s.r.areg &&& 0xFFFFFFFE#32) p →
    loads .ls (BitVec.setWidth 32 (s.byteAt (p + 1#32) ++ s.byteAt p)) ∧
    loads .lsx (BitVec.signExtend 32 (s.byteAt (p + 1#32) ++ s.byteAt p))) ∧
  (s.CanRead true s.r.areg p → SetsA s .devlb (BitVec.setWidth 32 (s.byteFor true p))) ∧
  (s.HalfOperand s.r.areg → s.CanRead true (s.r.areg &&& 0xFFFFFFFE#32) p →
    SetsA s .devls (BitVec.setWidth 32 (s.byteFor true (p + 1#32) ++ s.byteFor true p))) ∧
  (s.WordOperand s.r.areg → s.CanRead true (s.r.areg &&& 0xFFFFFFFC#32) p → SetsA s .devlw (s.devWord p)) ∧
  ((∀ l ∈ s.cache.lines, l.block ≠ p.toNat / 16) → s.devWord p = s.wordAt p ∧ (s.fetchable p = true →
    u = { s with cache := { s.cache with
      lines := s.cache.lines ++ [⟨none, p.toNat / 16, .all false, s.mem.block (p.toNat / 16)⟩] } })) ∧
  (s.fetchable p = false ∨ (∃ l ∈ s.cache.lines, l.block = p.toNat / 16) → u = s)

/-- The stores, to whatever physical address their logical address reaches (R163, R167, R174, R175; 41 R278 to R280):
the bytes stored, in little-endian order (20_memory.md R81), and no others change. Where nothing takes the store (the boot
bank, R98, or a bank without writable memory, D3) the instruction completes and no byte changes. -/
def Obligations.StoresWriteMemory : Prop := ∀ (s : State) (p : Word), s.calm → s.mem.wf = true →
  let stores (i : Instr) (dev : Bool) (la : Word) (n : Nat) (v a : Word) (b : Option Word) : Prop :=
    s.WriteReaches dev la p → s.watches la = false → (dev = true → s.cpuMode ≠ .memSem) →
    (s.takes dev p = true → Stores s i p n v a b) ∧
    (s.takes dev p = false → ∃ t : State, exec i s = .next t ∧ SameMemory s t ∧ OnlyStore s t ∧
      t.r = { s.r with areg := a, breg := t.r.breg, creg := t.r.creg } ∧ (∀ w : Word, b = some w → t.r.breg = w))
  let word := s.r.areg &&& 0xFFFFFFFC#32
  let half := s.r.areg &&& 0xFFFFFFFE#32
  (∀ n : Word, stores (.stl n) false (s.w + 4#32 * n) 4 s.r.areg s.r.breg (some s.r.creg)) ∧
  (∀ n : Word, s.WordOperand s.r.areg → stores (.stnl n) false (word + 4#32 * n) 4 s.r.breg s.r.creg none) ∧
  stores .sb false s.r.areg 1 s.r.breg s.r.creg none ∧
  (s.HalfOperand s.r.areg → stores .ss false half 2 s.r.breg s.r.creg none) ∧
  stores .devsb true s.r.areg 1 s.r.breg s.r.creg none ∧
  (s.HalfOperand s.r.areg → stores .devss true half 2 s.r.breg s.r.creg none) ∧
  (s.WordOperand s.r.areg → stores .devsw true word 4 s.r.breg s.r.creg none)

/-- Jumps, the procedure return and the workspace pointer (R260, R261, R264 to R267, R269; 20_memory.md R124). A
non-zero `j`, a timeslicing point, leaves both stacks, the rounding mode and the block move registers undefined (45 R521,
R292). A transfer of control
empties the pre-fetch buffer (70 R805): which words it may hold is the model's choice (log 22). That `ret` of a P-process
takes its new Wptr without a check is the decision D43 of R454, log 1. -/
def Obligations.JumpsAndWorkspace : Prop := ∀ s : State, s.calm →
  (∀ n : Word, n ≠ 0#32 → s.timesliceDue = false → s.ctl.gross ≠ .stopping →
    ∃ t : State, exec (.j n) s = .next t ∧ t = { s with
      r := { s.r with
        iptr := s.r.iptr + n, areg := t.r.areg, breg := t.r.breg, creg := t.r.creg, fpA := t.r.fpA, fpB := t.r.fpB
        fpC := t.r.fpC, round := t.r.round, bm0 := t.r.bm0, bm1 := t.r.bm1, bm2 := t.r.bm2 }
      prefetch := [], draws := t.draws }) ∧
  (∀ n : Word, s.r.areg = 0#32 → exec (.cj n) s = .next { s with r := { s.r with iptr := s.r.iptr + n }, prefetch := [] }) ∧
  (∀ n : Word, s.r.areg ≠ 0#32 → Pops s (.cj n)) ∧
  exec .nop s = .next s ∧
  exec .gcall s = .next { s with r := { s.r with iptr := s.r.areg, areg := s.r.iptr }, prefetch := [] } ∧
  (∀ n p : Word, s.r.translate false .write (s.w + 4#32 * n) = .ok p → ∃ ws : WsCache, exec (.ajw n) s =
    .next { s with r := { s.r with wdesc := (s.w + 4#32 * n) ||| (s.r.wdesc &&& 1#32) }, ws := ws }) ∧
  (∀ p : Word, s.WordOperand s.r.areg → s.r.translate false .write (s.r.areg &&& 0xFFFFFFFC#32) = .ok p →
    ∃ ws : WsCache, exec .gajw s = .next { s with
      r := { s.r with wdesc := (s.r.areg &&& 0xFFFFFFFC#32) ||| (s.r.wdesc &&& 1#32), areg := s.w }, ws := ws }) ∧
  (∀ p : Word, s.CanRead false s.w p → ∃ ws : WsCache, exec .ret s = .next { s.readMiss p with
    r := { s.r with iptr := s.wordAt p, wdesc := (s.w + 16#32) ||| (s.r.wdesc &&& 1#32) }, ws := ws, prefetch := [] })

/-- `call` of an L-process (R263): the return address and the stack are stored in the four words below the
workspace, and Areg holds the return address. `lend` (R268): while more than one iteration is left the index word
rises, the count word falls and control goes back; else only the count word falls. It is a timeslicing point like `j`. -/
def Obligations.CallAndLoopEnd : Prop :=
  (∀ (s : State) (n : Word), s.plain → s.mem.wf = true →
    s.Plain (s.w - 16#32) → s.Plain (s.w - 12#32) → s.Plain (s.w - 8#32) → s.Plain (s.w - 4#32) →
    ∃ t : State, exec (.call n) s = .next t ∧
      t.wordAt (s.w - 16#32) = s.r.iptr ∧ t.wordAt (s.w - 12#32) = s.r.areg ∧ t.wordAt (s.w - 8#32) = s.r.breg ∧
      t.wordAt (s.w - 4#32) = s.r.creg ∧ SameOutside s t (s.w - 16#32) 16 ∧ OnlyStore s t ∧
      t.r = { s.r with
        wdesc := (s.w - 16#32) ||| (s.r.wdesc &&& 1#32), iptr := s.r.iptr + n, areg := s.r.iptr, breg := t.r.breg
        creg := t.r.creg }) ∧
  (∀ s : State, s.plain → s.mem.wf = true → s.timesliceDue = false →
    s.ctl.gross ≠ .stopping → s.WordOperand s.r.breg → s.Plain (s.r.breg &&& 0xFFFFFFFC#32) →
    s.Plain ((s.r.breg &&& 0xFFFFFFFC#32) + 4#32) →
    let b := s.r.breg &&& 0xFFFFFFFC#32
    let c := s.wordAt (b + 4#32) - 1#32
    ∃ t : State, exec .lend s = .next t ∧ t.wordAt (b + 4#32) = c ∧ OnlyStore s t ∧
      t.r = { s.r with
        iptr := if 0 < c.toInt then s.r.iptr - s.r.areg else s.r.iptr, areg := t.r.areg, breg := t.r.breg
        creg := t.r.creg, fpA := t.r.fpA, fpB := t.r.fpB, fpC := t.r.fpC, round := t.r.round, bm0 := t.r.bm0
        bm1 := t.r.bm1, bm2 := t.r.bm2 } ∧
      (0 < c.toInt → t.wordAt b = s.wordAt b + 1#32 ∧ SameBut s t [b, b + 4#32]) ∧
      (¬ 0 < c.toInt → SameBut s t [b + 4#32]))

/-- One-dimensional moves of an L-process that do not overlap (R285; the device move R281 of section 4): every byte is copied,
no other byte changes, and the stack is undefined. A device move reads as a device load does (20_memory.md R111), of a line
that the cache holds as the model chooses (log 15). -/
def Obligations.BlockMoveCopies : Prop := ∀ s : State, s.plain → s.mem.wf = true →
  let n := s.r.areg.toNat
  n ≤ (s.r.breg - s.r.creg).toNat → n ≤ (s.r.creg - s.r.breg).toNat →
  let copies (i : Instr) (dev : Bool) : Prop := ∃ t : State, exec i s = .next t ∧
    (∀ k : Nat, k < n → t.byteAt (s.r.breg + BitVec.ofNat 32 k) = s.byteFor dev (s.r.creg + BitVec.ofNat 32 k)) ∧
    SameOutside s t s.r.breg n ∧ OnlyStore s t ∧ OnlyIntRegs s t
  ((∀ k : Nat, k < n → s.Plain (s.r.breg + BitVec.ofNat 32 k) ∧ s.Plain (s.r.creg + BitVec.ofNat 32 k)) →
    copies .move false) ∧
  ((∀ k : Nat, k < n → s.CanWrite true (s.r.breg + BitVec.ofNat 32 k) (s.r.breg + BitVec.ofNat 32 k) ∧
    s.CanRead true (s.r.creg + BitVec.ofNat 32 k) (s.r.creg + BitVec.ofNat 32 k)) → copies .devmove true)

/-- Two-dimensional moves of an L-process whose blocks do not overlap (R287 to R289): Areg bytes of each of BMreg0
rows, BMreg1 and BMreg2 being the strides; `move2dnonzero` and `move2dzero` copy only non-zero, only zero bytes. The
block move registers are loaded by `move2dinit` (R286) and stored by `stmove2dinit` (R291). -/
def Obligations.TwoDimensionalMoves : Prop :=
  (∀ s : State, s.plain → s.mem.wf = true →
    let rows := s.r.bm0.toNat
    let width := s.r.areg.toNat
    let dst (y x : Nat) : Word := s.r.breg + BitVec.ofNat 32 y * s.r.bm1 + BitVec.ofNat 32 x
    let src (y x : Nat) : Word := s.r.creg + BitVec.ofNat 32 y * s.r.bm2 + BitVec.ofNat 32 x
    (∀ y x : Nat, y < rows → x < width → s.Plain (dst y x) ∧ s.Plain (src y x)) →
    (∀ y x y' x' : Nat, y < rows → x < width → y' < rows → x' < width → dst y x ≠ src y' x' ∧
      (dst y x = dst y' x' → y = y' ∧ x = x')) →
    ∀ i ∈ [(Instr.move2dall, fun _ : Byte => true), (.move2dnonzero, fun v => v != 0#8),
      (.move2dzero, fun v => v == 0#8)],
    ∃ t : State, exec i.1 s = .next t ∧
      (∀ y x : Nat, y < rows → x < width →
        t.byteAt (dst y x) = if i.2 (s.byteAt (src y x)) then s.byteAt (src y x) else s.byteAt (dst y x)) ∧
      (∀ a : Word, (∀ y x : Nat, y < rows → x < width → a ≠ dst y x) → t.byteAt a = s.byteAt a) ∧ OnlyStore s t ∧
      t.r = { s.r with
        areg := t.r.areg, breg := t.r.breg, creg := t.r.creg, bm0 := t.r.bm0, bm1 := t.r.bm1, bm2 := t.r.bm2 }) ∧
  (∀ s : State,
    (s.calm → ∃ t : State, exec .move2dinit s = .next t ∧ t = { s with
      r := { s.r with
        bm0 := s.r.areg, bm1 := s.r.breg, bm2 := s.r.creg, areg := t.r.areg, breg := t.r.breg, creg := t.r.creg }
      draws := t.draws }) ∧
    (s.plain → s.mem.wf = true → s.WordOperand s.r.areg →
      let a := s.r.areg &&& 0xFFFFFFFC#32
      s.Plain a → s.Plain (a + 4#32) → s.Plain (a + 8#32) →
      ∃ t : State, exec .stmove2dinit s = .next t ∧ t.wordAt a = s.r.bm0 ∧ t.wordAt (a + 4#32) = s.r.bm1 ∧
        t.wordAt (a + 8#32) = s.r.bm2 ∧ SameOutside s t a 12 ∧ OnlyStore s t ∧
        t.r = { s.r with areg := s.r.breg, breg := s.r.creg, creg := t.r.creg }))


/-! ## Processes, queues, timers (42_process_sched.md) -/

/-- The privileged instructions on single registers (R345, R346, R354, R365; 44 R469; 47 R673). `testpranal` reads
ErrorSinceReset (R365); that it clears it as well is the model's reading of 60_exceptions.md R745, where R365 and 10_state.md
R67 only read it (log 18, DEDUCED); that `sttimer` starts a timeslice period afresh is the model's choice (log 41). -/
def Obligations.PrivilegedRegisterInstructions : Prop := ∀ s : State, s.plain →
  Pushes s .ldth s.r.th ∧
  Pushes s .ldmemstartval (s.conf.memStart &&& 0xFFFFFFFC#32) ∧
  exec .intdis s = .next { s with intEnabled := false } ∧
  exec .intenb s = .next { s with intEnabled := true } ∧
  (s.r.areg = 0#32 → exec .settimeslice s = .next { s with
    r := { s.r with
      status := s.r.status ||| 0x02000000#32, areg := if s.r.status.getLsbD 25 then 0#32 else 1#32 } }) ∧
  (s.r.areg = 1#32 → exec .settimeslice s = .next { s with
    r := { s.r with
      status := s.r.status &&& 0xFDFFFFFF#32, areg := if s.r.status.getLsbD 25 then 0#32 else 1#32 } }) ∧
  (∃ (c : Word) (d : Nat), exec .sttimer s = .next { s with
    r := { s.r with areg := s.r.breg, breg := s.r.creg, creg := c }, hi := { s.hi with clock := s.r.areg }
    lo := { s.lo with clock := s.r.areg }, clockRunning := true, tickPhase := 0#8, draws := d }) ∧
  exec .testpranal s = .next { s with
    r := { s.r with
      areg := if s.conf.errorSinceReset then 1#32 else 0#32, breg := s.r.areg, creg := s.r.breg }
    conf := { s.conf with errorSinceReset := false } }

/-- The flag bits of StatusReg are read by `ldflags` and written by `stflags` (44 R470, R471). -/
def Obligations.FlagInstructions : Prop := ∀ s : State, s.calm →
  Pushes s .ldflags (s.r.status &&& 0x000BFFCC#32) ∧
  ∃ (c : Word) (d : Nat), exec .stflags s = .next { s with
    r := { s.r with
      status := (s.r.status &&& ~~~ 0x000BFFCC#32) ||| (s.r.areg &&& 0x000BFFCC#32), areg := s.r.breg
      breg := s.r.creg, creg := c }
    draws := d }

/-- `runp` and `startp` put a process at the back of a scheduling list and go on (R322, R330, R332). `endp` counts a
component of a PAR down: the last goes on at the address the structure holds, in its workspace; another leaves the
processor (R331), here with no process to follow; as at every descheduling point the stacks, the rounding mode and the
block move registers are then undefined (45 R521, 41 R292). The stores by which a process joins a list (`Appended`) are the decision
D36 of R322. -/
def Obligations.StartingAndEndingProcesses : Prop :=
  (∀ s : State, s.plain → s.mem.wf = true →
    (s.CanAppend (s.r.areg.getLsbD 0) → ∃ t : State, exec .runp s = .next t ∧
      Appended s t (s.r.areg.getLsbD 0) (s.r.areg &&& 0xFFFFFFFC#32) ∧
      SameBut s t (s.appendPlace (s.r.areg.getLsbD 0)) ∧ OnlySched s t ∧ OnlyStacks s t) ∧
    (let a := s.r.areg &&& 0xFFFFFFFC#32
     let low := s.r.wdesc.getLsbD 0
     s.WordOperand s.r.areg → s.Plain (a - 4#32) → s.Plain (a - 12#32) → s.CanAppend low →
     a - 4#32 ∉ s.appendPlace low → a - 12#32 ∉ s.appendPlace low → ∃ t : State, exec .startp s = .next t ∧
      t.wordAt (a - 4#32) = s.r.iptr + s.r.breg ∧ t.wordAt (a - 12#32) = s.r.th ∧ Appended s t low a ∧
      SameBut s t ([a - 4#32, a - 12#32] ++ s.appendPlace low) ∧ OnlySched s t ∧ OnlyStacks s t)) ∧
  (∀ s : State, s.plain → s.mem.wf = true → s.WordOperand s.r.areg →
    let a := s.r.areg &&& 0xFFFFFFFC#32
    s.Plain a → s.Plain (a + 4#32) →
    (s.wordAt (a + 4#32) = 1#32 → ∃ t : State, exec .endp s = .next t ∧ t.wordAt (a + 4#32) = 0#32 ∧
      SameBut s t [a + 4#32] ∧ OnlyStore s t ∧ t.r = { s.r with
        wdesc := a ||| (s.r.wdesc &&& 1#32), iptr := s.wordAt a, areg := t.r.areg, breg := t.r.breg, creg := t.r.creg
        fpA := t.r.fpA, fpB := t.r.fpB, fpC := t.r.fpC, round := t.r.round, bm0 := t.r.bm0, bm1 := t.r.bm1
        bm2 := t.r.bm2 }) ∧
    (s.wordAt (a + 4#32) ≠ 1#32 → s.Alone → s.r.th = 0x80000000#32 → ∃ t : State, exec .endp s = .next t ∧
      t.wordAt (a + 4#32) = s.wordAt (a + 4#32) - 1#32 ∧ SameBut s t [a + 4#32] ∧ GoesIdle s t ∧ t.hi = s.hi ∧
      t.lo = s.lo))

/-- `stopp` saves the process, and its status in th.Cntl of its trap-handler where that is not null (sb.ThInUse keeps its
value), and leaves the processor (R326, R333); `timeslice` puts it at the back of its list, so that alone it goes on at once
as if newly loaded (R328, R347). At `j` and `lend`, timeslicing points, an L-process of low priority whose timeslice has ended
is saved and put at the back of its list, and the process in front of it runs (R352); after a Stop it leaves there too, and
nothing is dispatched: the model's reading of 47_vcp_config.md R698 (log 46, DEDUCED). The stores by which a process joins a
list are the decision D36 of R322. -/
def Obligations.LeavingTheProcessor : Prop :=
  (∀ s : State, s.plain → s.mem.wf = true → s.CanIdle →
    (∃ t : State, exec .stopp s = .next t ∧ Saved s t ∧ SameBut s t [s.w - 4#32, s.w - 12#32] ∧ GoesIdle s t ∧
      t.hi = s.hi ∧ t.lo = s.lo) ∧
    (s.w ≠ 0x80000000#32 → s.ctl.gross ≠ .stopping → ∃ t : State, exec .timeslice s = .next t ∧ Saved s t ∧
      SameBut s t [s.w - 4#32, s.w - 12#32] ∧ t.r.wdesc = s.w ||| (s.r.wdesc &&& 1#32) ∧ t.r.iptr = s.r.iptr ∧
      t.r.th = s.r.th ∧ t.r.status = 0x80#32 ∧ t.hi.fptr = 0x80000000#32 ∧ t.lo.fptr = 0x80000000#32 ∧
      t.intEnabled = true)) ∧
  (∀ s : State, s.plain → s.mem.wf = true → s.Alone → s.r.th ≠ 0x80000000#32 → s.r.th &&& 3#32 = 0#32 → s.Plain s.r.th →
    s.Plain (s.w - 4#32) → s.Plain (s.w - 12#32) → [s.w - 4#32, s.w - 12#32, s.r.th].Nodup →
    ∃ t : State, exec .stopp s = .next t ∧ Saved s t ∧
      t.wordAt s.r.th &&& 0x6E0BFFCC#32 = s.r.status &&& 0x6E0BFFCC#32 ∧
      (s.r.status.getLsbD 31 = false → (t.wordAt s.r.th).getLsbD 31 = (s.wordAt s.r.th).getLsbD 31) ∧
      SameBut s t [s.w - 4#32, s.w - 12#32, s.r.th] ∧ GoesIdle s t ∧ t.hi = s.hi ∧ t.lo = s.lo) ∧
  (∀ s : State, s.plain → s.mem.wf = true → s.r.th = 0x80000000#32 → s.r.wdesc.getLsbD 0 = true →
    s.timesliceDue = true ∨ s.ctl.gross = .stopping → s.hi.fptr = 0x80000000#32 → s.shadowValid = false →
    let w := s.lo.fptr
    let b := s.r.breg &&& 0xFFFFFFFC#32
    let c := s.wordAt (b + 4#32) - 1#32
    w = s.lo.bptr → w ≠ 0x80000000#32 → w &&& 3#32 = 0#32 → s.wordAt (w - 12#32) = 0x80000000#32 →
    (∀ a ∈ [s.w - 4#32, s.w - 12#32, w - 4#32, w - 8#32, w - 12#32], s.Plain a) →
    let leaves (i : Instr) (next : Word) (ws : List (Word × Word)) : Prop :=
      ([s.w - 4#32, s.w - 12#32, w - 4#32, w - 8#32, w - 12#32] ++ ws.map Prod.fst).Nodup →
      ∃ t : State, exec i s = .next t ∧ t.wordAt (s.w - 4#32) = next ∧ t.wordAt (s.w - 12#32) = s.r.th ∧
        t.wordAt (w - 8#32) = s.w ∧ (∀ x ∈ ws, t.wordAt x.1 = x.2) ∧
        SameBut s t ([s.w - 4#32, s.w - 12#32, w - 8#32] ++ ws.map Prod.fst) ∧ t.hi = s.hi ∧ t.intEnabled = true ∧
        (s.ctl.gross ≠ .stopping → t.r.wdesc = w ||| 1#32 ∧ t.r.iptr = s.wordAt (w - 4#32) ∧ t.r.th = 0x80000000#32 ∧
          t.r.status = 0x80#32 ∧ t.lo = { s.lo with fptr := s.w, bptr := s.w } ∧ t.tsCount = 0) ∧
        (s.ctl.gross = .stopping → t.r.wdesc = 0x80000000#32 ∧ t.lo = { s.lo with bptr := s.w })
    (∀ n : Word, n ≠ 0#32 → leaves (.j n) (s.r.iptr + n) []) ∧
    (s.WordOperand s.r.breg → s.Plain b → s.Plain (b + 4#32) →
      (0 < c.toInt → leaves .lend (s.r.iptr - s.r.areg) [(b, s.wordAt b + 1#32), (b + 4#32, c)]) ∧
      (¬ 0 < c.toInt → leaves .lend s.r.iptr [(b + 4#32, c)])))

/-- Running the next process takes the front of the high priority list, or of the low one where that is empty and no process
is interrupted, and loads its state (R323, R328): with the null trap-handler the default control word, else the status in
th.Cntl and, where that enables a watchpoint, its bounds. A process whose trap-handler is in use goes to the queue of that
handler instead (44 R466); here it is the only one, and the processor idles. After a Stop none is taken: the processor idles,
and goes on idling, which is the model's reading of 47_vcp_config.md R698 (log 46, DEDUCED). The test by which the last
process leaves a list is the decision D36 of R328. -/
def Obligations.RunNextTakesTheFront : Prop :=
  (∀ (s : State) (low : Bool), s.trouble = none →
    s.ctl.gross ≠ .stopping → (low = true → s.hi.fptr = 0x80000000#32 ∧ s.shadowValid = false) →
    let q := s.sched low
    let w := q.fptr
    w ≠ 0x80000000#32 → w &&& 3#32 = 0#32 → s.Plain (w - 4#32) → s.Plain (w - 8#32) → s.Plain (w - 12#32) →
    let h := s.wordAt (w - 12#32)
    let control := s.wordAt h
    let t := s.runNextProcess
    let runs (status : Word) : Prop :=
      t.trouble = none ∧ t.r.wdesc = w ||| (if low then 1#32 else 0#32) ∧ t.r.iptr = s.wordAt (w - 4#32) ∧
      t.r.th = h ∧ t.r.status = status ∧ t.intEnabled = true ∧ t.mem = s.mem ∧
      t.sched low = { q with fptr := if q.fptr = q.bptr then 0x80000000#32 else s.wordAt (w - 8#32) } ∧
      t.sched (!low) = s.sched (!low) ∧ t.sh = s.sh ∧ t.shadowValid = s.shadowValid
    (h = 0x80000000#32 → runs 0x80#32) ∧
    (h ≠ 0x80000000#32 → h &&& 3#32 = 0#32 → s.Plain h → control &&& 0x91F40033#32 = 0#32 →
      (control.getLsbD 29 = false → runs (control &&& 0x660BFFCC#32)) ∧
      (control.getLsbD 29 = true → s.Plain (h + 20#32) → s.Plain (h + 24#32) →
        badBounds (s.wordAt (h + 20#32)) (s.wordAt (h + 24#32)) = false →
        runs (control &&& 0x660BFFCC#32) ∧ t.r.wl = s.wordAt (h + 20#32) ∧ t.r.wu = s.wordAt (h + 24#32)))) ∧
  (∀ (s : State) (low : Bool), s.trouble = none → s.mem.wf = true → s.ctl.gross ≠ .stopping → s.shadowValid = false →
    let q := s.sched low
    let w := q.fptr
    (s.sched (!low)).fptr = 0x80000000#32 → q.bptr = w → w ≠ 0x80000000#32 → w &&& 3#32 = 0#32 → s.Plain (w - 12#32) →
    let h := s.wordAt (w - 12#32)
    let last := s.wordAt (h + 12#32) - 8#32
    let place := if s.wordAt (h + 8#32) = 0x80000000#32 then h + 8#32 else last
    h ≠ 0x80000000#32 → h &&& 3#32 = 0#32 → s.Plain h → (s.wordAt h).getLsbD 31 = true → s.Plain (h + 8#32) →
    s.Plain (h + 12#32) → place &&& 3#32 = 0#32 → s.Plain place → place ≠ h + 12#32 →
    let t := s.runNextProcess
    t.trouble = none ∧ t.r.wdesc = 0x80000000#32 ∧ t.wordAt place = w ∧ t.wordAt (h + 12#32) = w ∧
    SameBut s t [place, h + 12#32] ∧ t.sched low = { q with fptr := 0x80000000#32 } ∧
    t.sched (!low) = s.sched (!low)) ∧
  (∀ s : State, s.ctl.gross = .stopping → s.runNextProcess.r.wdesc = 0x80000000#32 ∧ s.runNextProcess.hi = s.hi ∧
    s.runNextProcess.lo = s.lo ∧ s.runNextProcess.mem = s.mem ∧
    (s.agenda = [] → s.inChain = false → s.cache.waiting = false → s.r.wdesc = 0x80000000#32 → s.trouble = none →
      step s = .next { s with cpuMode := .whole }))

/-- A high priority process that becomes ready interrupts a low priority one, or the idle processor, between two
instructions: the registers go to their shadows, of the null process only two (R338, R340); when no high priority process is
left they come back (R339), and what the shadows then hold is any value (log 67). That the interrupt is the CPU's next move,
before its fetch, is the model's reading (log 13), that an empty agenda means a move of the CPU its choice (log 6). -/
def Obligations.InterruptAndReturn : Prop := ∀ s : State, s.trouble = none →
  (s.agenda = [] → s.inChain = false → s.cache.waiting = false → s.ctl.gross = .running → s.intEnabled = true →
    s.shadowValid = false →
    let w := s.hi.fptr
    w ≠ 0x80000000#32 → w &&& 3#32 = 0#32 → s.Plain (w - 4#32) → s.Plain (w - 8#32) → s.Plain (w - 12#32) →
    s.wordAt (w - 12#32) = 0x80000000#32 →
    let runs (sh : Regs → Prop) : Prop := ∃ t : State, step s = .next t ∧ sh t.sh ∧ t.shadowValid = true ∧
      t.r.wdesc = w ∧ t.r.iptr = s.wordAt (w - 4#32) ∧ t.r.status = 0x80#32 ∧ t.mem = s.mem ∧ t.lo = s.lo
    (s.r.wdesc.getLsbD 0 = true → runs (· = s.r)) ∧
    (s.r.wdesc = 0x80000000#32 → runs fun sh => sh.wdesc = 0x80000000#32 ∧ sh.status = 0#32)) ∧
  (s.hi.fptr = 0x80000000#32 → s.shadowValid = true → s.sh.wdesc ≠ 0x80000000#32 → s.ctl.gross ≠ .stopping →
    ∃ (sh : Regs) (d : Nat), s.runNextProcess = { s with
      r := s.sh, sh := sh, shadowValid := false, intEnabled := true, ws := { valid := 0#32, stale := [] }, prefetch := []
      draws := d })

/-- The scheduling lists and timer lists exchanged and lengthened (R357 to R359). -/
def Obligations.QueueInstructions : Prop := ∀ (s : State) (low : Bool), s.plain → s.mem.wf = true →
  s.r.areg = (if low then 1#32 else 0#32) →
  let q := s.sched low
  let aligned : Prop := s.r.breg = 0x80000000#32 ∨ (s.r.breg &&& 3#32 = 0#32 ∧ s.r.creg &&& 3#32 = 0#32)
  (aligned → ∃ t : State, exec .swapqueue s = .next t ∧ t.mem = s.mem ∧ t.r.areg = q.fptr ∧ t.r.breg = q.bptr ∧
    t.sched low = { q with fptr := s.r.breg, bptr := s.r.creg } ∧ t.sched (!low) = s.sched (!low) ∧
    OnlySched s t ∧ OnlyIntRegs s t) ∧
  (s.r.breg = 0x80000000#32 → ∃ t : State, exec .insertqueue s = .next t ∧ OnlyStack s t) ∧
  (aligned → s.r.breg ≠ 0x80000000#32 → q.fptr = 0x80000000#32 → ∃ t : State, exec .insertqueue s = .next t ∧
    t.mem = s.mem ∧ t.sched low = { q with fptr := s.r.breg, bptr := s.r.creg } ∧
    t.sched (!low) = s.sched (!low) ∧ OnlySched s t ∧ OnlyIntRegs s t) ∧
  (aligned → s.r.breg ≠ 0x80000000#32 → q.fptr ≠ 0x80000000#32 → s.Plain (s.r.creg - 8#32) →
    ∃ t : State, exec .insertqueue s = .next t ∧ t.wordAt (s.r.creg - 8#32) = q.fptr ∧
    SameBut s t [s.r.creg - 8#32] ∧ t.sched low = { q with fptr := s.r.breg } ∧
    t.sched (!low) = s.sched (!low) ∧ OnlySched s t ∧ OnlyIntRegs s t) ∧
  (s.r.breg = 0x80000000#32 → ∃ t : State, exec .swaptimer s = .next t ∧ t.mem = s.mem ∧ t.r.areg = q.tptr ∧
    t.sched low = { q with tptr := 0x80000000#32 } ∧ t.sched (!low) = s.sched (!low) ∧ OnlySched s t ∧
    OnlyIntRegs s t) ∧
  (s.r.breg ≠ 0x80000000#32 → s.r.breg &&& 3#32 = 0#32 → s.Plain (s.r.breg - 24#32) →
    ∃ t : State, exec .swaptimer s = .next t ∧ t.mem = s.mem ∧ t.r.areg = q.tptr ∧
    t.sched low = { q with tptr := s.r.breg, tnext := s.wordAt (s.r.breg - 24#32) } ∧
    t.sched (!low) = s.sched (!low) ∧ OnlySched s t ∧ OnlyIntRegs s t)

/-- `wait` takes one from the count of a semaphore, or queues the process behind those that wait where the count is 0; here
no process is ready. `signal` adds one to the count, or makes the first waiting process ready (R360 to R362). A count that
overflows sets the flag where IntegerOverflow is not trapped (60 R707). The form in which a process joins and leaves a list
is the decision D36 of R362 and R322. -/
def Obligations.Semaphores : Prop :=
  (∀ s : State, s.plain → s.mem.wf = true → s.WordOperand s.r.areg →
    let a := s.r.areg &&& 0xFFFFFFFC#32
    let last := (s.wordAt (a + 8#32) &&& 0xFFFFFFFC#32) - 8#32
    s.Plain a → s.Plain (a + 4#32) → s.Plain (a + 8#32) →
    (s.wordAt a ≠ 0#32 → s.wordAt a ≠ 0x80000000#32 → ∃ t : State, exec .wait s = .next t ∧
      t.wordAt a = s.wordAt a - 1#32 ∧ SameBut s t [a] ∧ OnlyStore s t ∧ OnlyPoint s t) ∧
    (s.wordAt a = 0x80000000#32 → s.r.status.getLsbD 7 = false → ∃ t : State, exec .wait s = .next t ∧
      t.wordAt a = 0x7FFFFFFF#32 ∧ SameBut s t [a] ∧ OnlyStore s t ∧
      OnlyPoint { s with r := { s.r with status := s.r.status ||| 0x40#32 } } t) ∧
    (s.wordAt a = 0#32 → s.wordAt (a + 4#32) = 0x80000000#32 → s.CanIdle →
      [a + 4#32, a + 8#32, s.w - 4#32, s.w - 12#32].Nodup → ∃ t : State, exec .wait s = .next t ∧ Saved s t ∧
      t.wordAt (a + 4#32) = s.r.wdesc ∧ t.wordAt (a + 8#32) = s.r.wdesc ∧
      SameBut s t [a + 4#32, a + 8#32, s.w - 4#32, s.w - 12#32] ∧ GoesIdle s t ∧ t.hi = s.hi ∧ t.lo = s.lo) ∧
    (s.wordAt a = 0#32 → s.wordAt (a + 4#32) ≠ 0x80000000#32 → s.CanIdle → s.Plain last →
      [last, a + 8#32, s.w - 4#32, s.w - 12#32].Nodup → ∃ t : State, exec .wait s = .next t ∧ Saved s t ∧
      t.wordAt last = s.r.wdesc ∧ t.wordAt (a + 8#32) = s.r.wdesc ∧
      SameBut s t [last, a + 8#32, s.w - 4#32, s.w - 12#32] ∧ GoesIdle s t ∧ t.hi = s.hi ∧ t.lo = s.lo)) ∧
  (∀ s : State, s.plain → s.mem.wf = true → s.WordOperand s.r.areg →
    let a := s.r.areg &&& 0xFFFFFFFC#32
    let d := s.wordAt (a + 4#32)
    let low := d.getLsbD 0
    let w := d &&& 0xFFFFFFFC#32
    s.Plain a → s.Plain (a + 4#32) → s.Plain (a + 8#32) →
    (d = 0x80000000#32 → s.wordAt a ≠ 0x7FFFFFFF#32 → ∃ t : State, exec .signal s = .next t ∧
      t.wordAt a = s.wordAt a + 1#32 ∧ SameBut s t [a] ∧ OnlyStore s t ∧ OnlyStacks s t) ∧
    (d = 0x80000000#32 → s.wordAt a = 0x7FFFFFFF#32 → s.r.status.getLsbD 7 = false → ∃ t : State,
      exec .signal s = .next t ∧ t.wordAt a = 0x80000000#32 ∧ SameBut s t [a] ∧ OnlyStore s t ∧
      OnlyStacks { s with r := { s.r with status := s.r.status ||| 0x40#32 } } t) ∧
    (d ≠ 0x80000000#32 → s.CanAppend low → a + 4#32 ∉ s.appendPlace low → (d ≠ s.wordAt (a + 8#32) → s.Plain (w - 8#32)) →
      ∃ t : State, exec .signal s = .next t ∧ Appended s t low w ∧
      t.wordAt (a + 4#32) = (if d = s.wordAt (a + 8#32) then 0x80000000#32 else s.wordAt (w - 8#32)) ∧
      SameBut s t ([a + 4#32] ++ s.appendPlace low) ∧ OnlySched s t ∧ OnlyStacks s t))

/-- `tin` goes on where the alarm time is past, else puts the process on the timer list and leaves the processor (R355, R356);
here the list is empty and no process is ready. When the alarm time at the front of a timer list comes, the timer agent takes
the process off the list (R356, D37): one that executed `tin` (Enabling.p) runs; of one that waits in an alternative pw.TLink
becomes TimeSet.p and pw.State Ready.p, and it runs; of one that is ready pw.TLink becomes TimeSet.p. A list whose front is
not due stays as it is. A tick advances the clocks, that of low priority once in 64 ticks, and the timeslice period, and
readies no process (R350, R352). The store by which a process joins its list (`Appended`) is the decision D36 of R322, log 1;
that a tick and each expiry are events of their own is log 6, and where in its period the low priority clock ticks log 41. -/
def Obligations.TimerInputAndTimers : Prop :=
  (∀ s : State, s.plain → s.mem.wf = true →
    let low := s.r.wdesc.getLsbD 0
    let past : Prop := 0 < ((s.sched low).clock - s.r.areg).toInt
    (past → ∃ t : State, exec .tin s = .next t ∧ OnlyPointAndStatus s t ∧ OnlyPoint s t) ∧
    (¬past → (s.sched low).tptr = 0x80000000#32 → s.CanIdle → s.Plain (s.w - 16#32) → s.Plain (s.w - 20#32) →
      s.Plain (s.w - 24#32) → ∃ t : State, exec .tin s = .next t ∧ Saved s t ∧
      t.wordAt (s.w - 16#32) = 0x80000001#32 ∧ t.wordAt (s.w - 24#32) = s.r.areg + 1#32 ∧
      t.wordAt (s.w - 20#32) = 0x80000000#32 ∧ t.sched low = { s.sched low with tptr := s.w, tnext := s.r.areg + 1#32 } ∧
      t.sched (!low) = s.sched (!low) ∧ GoesIdle s t ∧
      SameBut s t [s.w - 4#32, s.w - 12#32, s.w - 16#32, s.w - 20#32, s.w - 24#32])) ∧
  (∀ s : State, s.inChain = false → s.cache.waiting = false → s.trouble = none → s.clockRunning = true →
    (s.agenda = [.tick] →
      let p := s.tickPhase.toNat + 1
      step s = .next { s with
        agenda := [], hi := { s.hi with clock := s.hi.clock + 1#32 }
        lo := { s.lo with clock := if p % 64 = 0 then s.lo.clock + 1#32 else s.lo.clock }
        tickPhase := BitVec.ofNat 8 p, tsCount := if p = 256 then s.tsCount + 1 else s.tsCount }) ∧
    (∀ low : Bool, s.agenda = [.serveTimer low] →
      (s.sched low).tptr = 0x80000000#32 ∨ 0 < ((s.sched low).tnext - (s.sched low).clock).toInt →
      step s = .next { s with agenda := [] })) ∧
  (∀ (s : State) (low : Bool), s.agenda = [.serveTimer low] → s.inChain = false → s.cache.waiting = false →
    s.trouble = none → s.mem.wf = true → s.clockRunning = true → s.ctl.gross = .running →
    let q := s.sched low
    let w := q.tptr
    let next := s.wordAt (w - 20#32)
    let time := s.wordAt (next - 24#32)
    w ≠ 0x80000000#32 → w &&& 3#32 = 0#32 → ¬ 0 < (q.tnext - q.clock).toInt →
    next = 0x80000000#32 ∨ s.Plain (next - 24#32) →
    s.Plain (w - 16#32) → s.Plain (w - 20#32) → s.CanAppend low →
    w - 16#32 ∉ s.appendPlace low → w - 20#32 ∉ s.appendPlace low →
    let u := s.setSched low { q with tptr := next, tnext := if next = 0x80000000#32 then q.tnext else time }
    let expires (runs : Bool) (ws : List (Word × Word)) : Prop := ∃ t : State, step s = .next t ∧ t.r = s.r ∧
      OnlySched { s with agenda := [] } t ∧ (∀ x ∈ ws, t.wordAt x.1 = x.2) ∧
      SameBut s t (ws.map Prod.fst ++ if runs then s.appendPlace low else []) ∧
      (if runs then Appended u t low w else t.hi = u.hi ∧ t.lo = u.lo)
    (s.wordAt (w - 16#32) = 0x80000001#32 → expires true []) ∧
    (s.wordAt (w - 16#32) = 0x80000002#32 →
      expires true [(w - 20#32, 0x80000001#32), (w - 16#32, 0x80000003#32)]) ∧
    (s.wordAt (w - 16#32) = 0x80000003#32 → expires false [(w - 20#32, 0x80000001#32)]))

/-- `stshadow` stores the groups of shadow registers between two markers at successive words, any values where no process is
interrupted, and any value in the reserved bits of the status (R341, R343; log 28), which of the interrupted null process is 0
(R340); `ldshadow` loads the groups between two markers from successive words, the words being those the rule admits (R342,
44 R484). How Xreg tells that an instruction has been interrupted is the model's
choice (log 29). -/
def Obligations.ShadowRegisters : Prop :=
  (∀ s : State, s.plain → s.mem.wf = true → s.WordOperand s.r.creg →
    s.r.wdesc.getLsbD 0 = false → 0 ≤ s.r.areg.toInt → s.r.areg.toInt < s.r.breg.toInt → s.r.breg.toInt ≤ 7 →
    let a := s.r.creg &&& 0xFFFFFFFC#32
    let all (r : Regs) (status : Word) : List (List (Option Word)) :=
      [[some r.region.q0, some r.region.q1, some r.region.q2, some r.region.q3],
       [some r.pstate, some r.wstub], [some r.th], [some status],
       [some r.wdesc, some r.iptr, some r.areg, some r.breg, some r.creg, some r.ereg, some r.xregWord,
        some r.bm0, some r.bm1, some r.bm2, some r.eptr],
       r.fpWords, [some r.wl, some r.wu]]
    let words (r : Regs) (status : Word) : List (Option Word) :=
      (((all r status).take s.r.breg.toNat).drop s.r.areg.toNat).flatten
    (∀ k : Nat, k < (words s.sh 0#32).length → s.Plain (a + BitVec.ofNat 32 (4 * k))) →
    ∃ (r : Regs) (status : Word) (t : State), (s.shadowValid = true → r = s.sh) ∧
      status &&& 0xEE0BFFCC#32 = r.status &&& 0xEE0BFFCC#32 ∧
      (r.wdesc = 0x80000000#32 → r.status = 0#32 → status = 0#32) ∧ exec .stshadow s = .next t ∧
      let ws := words r status
      (∀ (k : Nat) (v : Word), ws[k]? = some (some v) → t.wordAt (a + BitVec.ofNat 32 (4 * k)) = v) ∧
      (∀ k : Nat, ws[k]? = some none → t.wordAt (a + BitVec.ofNat 32 (4 * k)) = s.wordAt (a + BitVec.ofNat 32 (4 * k))) ∧
      SameOutside s t a (4 * ws.length) ∧ OnlyStore s t ∧ OnlyStacks s t) ∧
  (∀ (s : State) (g n : Nat), s.plain → s.WordOperand s.r.creg → s.r.wdesc.getLsbD 0 = false →
    s.r.areg = BitVec.ofNat 32 g → s.r.breg = BitVec.ofNat 32 n → g < n → n ≤ 7 →
    let a := s.r.creg &&& 0xFFFFFFFC#32
    let size (first : Nat) : Nat := (([4, 2, 1, 1, 11, 7, 2].take first).drop g).sum
    let v (k j : Nat) : Word := s.wordAt (a + BitVec.ofNat 32 (4 * (size k + j)))
    let on (k : Nat) : Prop := g ≤ k ∧ k < n
    let entry (tag j : Nat) : FpEntry :=
      if (v 5 0).getLsbD tag then ⟨true, v 5 (j + 1) ++ v 5 j⟩ else ⟨false, (v 5 j).setWidth 64⟩
    (∀ k : Nat, k < size n → s.Plain (a + BitVec.ofNat 32 (4 * k))) →
    (on 1 → v 1 0 &&& 3#32 = 0#32 ∧ v 1 1 &&& 3#32 = 1#32) → (on 2 → v 2 0 &&& 3#32 = 0#32) →
    (on 3 → v 3 0 &&& 0x11F40033#32 = 0#32) → (on 4 → v 4 0 &&& 3#32 = 1#32 ∨ v 4 0 = 0x80000000#32) →
    (on 5 → v 5 0 &&& 0xA8#32 = 0#32) →
    let s0 := s.sh
    let s1 := if on 0 then { s0 with region := ⟨v 0 0, v 0 1, v 0 2, v 0 3⟩ } else s0
    let s2 := if on 1 then { s1 with pstate := v 1 0, wstub := v 1 1 } else s1
    let s3 := if on 2 then { s2 with th := v 2 0 } else s2
    let s4 := if on 3 then { s3 with status := v 3 0 &&& 0x7FFFFFFF#32 } else s3
    let s5 := if on 4 then { s4 with
      wdesc := v 4 0, iptr := v 4 1, areg := v 4 2, breg := v 4 3, creg := v 4 4, ereg := v 4 5, xreg := v 4 6, bm0 := v 4 7
      bm1 := v 4 8, bm2 := v 4 9, eptr := v 4 10, midInstr := v 4 6 == Config.resumeMark } else s4
    let s6 := if on 5 then { s5 with
      round := (v 5 0).setWidth 2, fpA := entry 2 1, fpB := entry 4 3, fpC := entry 6 5 } else s5
    let sh := if on 6 then { s6 with wl := v 6 0, wu := v 6 1 } else s6
    (on 3 ∨ on 6 → sh.status.getLsbD 29 = true → badBounds sh.wl sh.wu = false) →
    ∃ u t : State, ReadMisses s u ∧ exec .ldshadow s = .next t ∧ t.sh = sh ∧ OnlyStacks s t ∧
      t = { u with r := t.r, sh := t.sh, draws := t.draws })

/-! ## Channels, alternatives, resource channels (43_channels_alt.md) -/

/-- A communication on an idle internal channel: the process is left waiting in the channel word with the address
(and the length) of its message in its workspace, and the processor is idle where no other process is ready (R384,
R390 to R395). An output to a channel on which a process has enabled an alternative, or waits in one, waits too, and makes
that guard ready; a process that waited runs (R424). An output to a channel in resource mode waits and makes its claim
(R426): the channel is queued on its resource, an alternative in which a server has enabled that resource becomes ready, and
a server that waits in `grant` gets the identifier and runs. That the model records whose message is in pw.Temp
(`State.setTemp`) is log 37; the steps of the claim are the decision D39 of R426 and the form in which a process joins and
leaves a list D36, log 1. -/
def Obligations.CommunicationWaits : Prop :=
  (∀ s : State, s.plain → s.mem.wf = true → s.WordOperand s.r.breg →
  let c := s.r.breg &&& 0xFFFFFFFC#32
  s.kind c = .internal → s.wordAt c = 0x80000000#32 → s.CanIdle → s.Plain c → s.Plain (s.w - 16#32) →
  [c, s.w, s.w - 4#32, s.w - 8#32, s.w - 12#32, s.w - 16#32].Nodup →
  let waits (i : Instr) (temp : Bool) (ws : List (Word × Word)) : Prop := ∃ t : State, exec i s = .next t ∧ Saved s t ∧
    t.wordAt c = s.r.wdesc ∧ (∀ x ∈ ws, t.wordAt x.1 = x.2) ∧
    SameBut s t ([c, s.w - 4#32, s.w - 12#32] ++ ws.map Prod.fst) ∧ GoesIdle (s.setTemp s.r.wdesc temp) t ∧ t.hi = s.hi ∧
    t.lo = s.lo
  waits .input false [(s.w - 16#32, s.r.creg)] ∧ waits .output false [(s.w - 16#32, s.r.creg)] ∧
  (s.Plain s.w → waits .outbyte true [(s.w, s.r.areg), (s.w - 16#32, s.w)] ∧
    waits .outword true [(s.w, s.r.areg), (s.w - 16#32, s.w)]) ∧
  (s.Plain (s.w - 8#32) → waits .vout false [(s.w - 16#32, s.r.creg), (s.w - 8#32, s.r.areg)] ∧
    (s.r.areg ≠ 0xFFFFFFFF#32 → waits .vin false [(s.w - 16#32, s.r.creg), (s.w - 8#32, s.r.areg)]))) ∧
  (∀ s : State, s.plain → s.mem.wf = true → s.WordOperand s.r.breg →
    let c := s.r.breg &&& 0xFFFFFFFC#32
    let d := s.wordAt c
    s.kind c = .internal → d ≠ 0x80000000#32 → s.CanIdle → s.Plain c →
    let outputs (f : Instr → Bool → List (Word × Word) → Prop) : Prop :=
      f .output false [(c, s.r.wdesc), (s.w - 16#32, s.r.creg)] ∧
      f .vout false [(c, s.r.wdesc), (s.w - 16#32, s.r.creg), (s.w - 8#32, s.r.areg)] ∧
      f .outword true [(s.w, s.r.areg), (c, s.r.wdesc), (s.w - 16#32, s.w)] ∧
      f .outbyte true [(s.w, s.r.areg), (c, s.r.wdesc), (s.w - 16#32, s.w)]
    (d ≠ 0x80000002#32 →
      let a := (d &&& 0xFFFFFFFC#32) - 16#32
      (s.wordAt a = 0x80000001#32 ∨ s.wordAt a = 0x80000003#32 →
        outputs fun i temp ws => LeavesIdle s i temp ((a, 0x80000003#32) :: ws)) ∧
      (s.wordAt a = 0x80000002#32 → outputs fun i temp ws => LeavesTo s i temp ((a, 0x80000003#32) :: ws) d)) ∧
    (d = 0x80000002#32 →
      let r := s.wordAt (c + 4#32)
      let server := s.wordAt r
      let back := s.wordAt (r + 8#32)
      let a := (server &&& 0xFFFFFFFC#32) - 16#32
      let queued : List (Word × Word) :=
        (if s.wordAt (r + 4#32) = 0x80000000#32 then (r + 4#32, c) else (back + 4#32, c)) :: [(r + 8#32, c)]
      let claims (f : Instr → Bool → List (Word × Word) → Prop) (reads : List Word) (made : List (Word × Word)) : Prop :=
        outputs fun i temp ws => (reads ++ made.map Prod.fst ++ ws.map Prod.fst).Nodup → f i temp (made ++ ws)
      let looked : List Word := if s.wordAt (r + 4#32) = 0x80000000#32 then [c + 4#32, r] else [c + 4#32, r, r + 4#32]
      r &&& 3#32 = 0#32 → s.Plain (c + 4#32) → s.Plain (c + 8#32) → s.Plain r → s.Plain (r + 4#32) → s.Plain (r + 8#32) →
      (s.wordAt (r + 4#32) ≠ 0x80000000#32 → s.kind back = .internal ∧ back &&& 3#32 = 0#32) →
      (server = 0x80000000#32 → claims (LeavesIdle s) looked queued) ∧
      (server ≠ 0x80000000#32 → s.Plain a →
        (s.wordAt a = 0x80000001#32 ∨ s.wordAt a = 0x80000003#32 →
          claims (LeavesIdle s) looked ((a, 0x80000003#32) :: queued)) ∧
        (s.wordAt a = 0x80000002#32 →
          claims (fun i temp ws => LeavesTo s i temp ws server) looked ((a, 0x80000003#32) :: queued)) ∧
        (s.wordAt a ≠ 0x80000001#32 → s.wordAt a ≠ 0x80000002#32 → s.wordAt a ≠ 0x80000003#32 →
          s.wordAt a &&& 3#32 = 0#32 → claims (fun i temp ws => LeavesTo s i temp ws server) [a]
            [(s.wordAt a, s.wordAt (c + 8#32)), (c + 4#32, 0x80000000#32), (c + 8#32, 0x80000000#32),
              (r, 0x80000000#32)]))))

/-- A communication on an internal channel where the other process waits, for messages that do not overlap: the
message is copied, the channel is idle again and the other process is made ready (R384, R390, R391, R394, R395).
The outputting process of a variable-length message finds its pw.Pointer undefined, one that executed `outbyte` or `outword`
its pw.Temp (log 37). The store by which the other process joins its list is the decision D36 of R322, that the length of a
variable-length message is stored in every case D41 of R384 (log 1); that the direction and the length are those of the
process that comes second is the model's choice (log 38). An output to a channel on which an alternative is enabled or
waiting, or in resource mode, is of `CommunicationWaits`. -/
def Obligations.CommunicationCompletes : Prop := ∀ s : State, s.plain → s.mem.wf = true → s.WordOperand s.r.breg →
  let c := s.r.breg &&& 0xFFFFFFFC#32
  let d := s.wordAt c
  let w := d &&& 0xFFFFFFFC#32
  let low := d.getLsbD 0
  let q := s.wordAt (w - 16#32)
  let n := s.r.areg.toNat
  let m := s.wordAt (w - 8#32)
  s.kind c = .internal → d ≠ 0x80000000#32 → d ≠ 0x80000002#32 → q ≠ 0x80000001#32 → q ≠ 0x80000002#32 →
  q ≠ 0x80000003#32 → s.Plain c → s.Plain (w - 16#32) → s.CanAppend low → c ∉ s.appendPlace low →
  let passes (i : Instr) (dst src : Word) (len : Nat) (slots : List (Word × Word))
      (gone : List Word) : Prop :=
    len ≤ (dst - src).toNat → len ≤ (src - dst).toNat →
    (∀ k : Nat, k < len → s.Plain (dst + BitVec.ofNat 32 k) ∧ s.Plain (src + BitVec.ofNat 32 k) ∧
      (dst + BitVec.ofNat 32 k) &&& 0xFFFFFFFC#32 ∉ [c] ++ slots.map Prod.fst ++ gone ++ s.appendPlace low ∧
      (src + BitVec.ofNat 32 k) &&& 0xFFFFFFFC#32 ∉ [c] ++ slots.map Prod.fst) →
    (∀ x ∈ slots, s.Plain x.1 ∧ x.1 ≠ c ∧ x.1 ∉ gone ++ s.appendPlace low) → c ∉ gone → (∀ x ∈ gone, s.Plain x) →
    ∃ t : State, exec i s = .next t ∧ t.wordAt c = 0x80000000#32 ∧ Appended s t low w ∧
      (∀ k : Nat, k < len → t.byteAt (dst + BitVec.ofNat 32 k) = s.byteAt (src + BitVec.ofNat 32 k)) ∧
      (∀ x ∈ slots, t.wordAt x.1 = x.2) ∧
      (∀ b : Word, (∀ k : Nat, k < len → b ≠ dst + BitVec.ofNat 32 k) →
        (b &&& 0xFFFFFFFC#32) ∉ [c] ++ slots.map Prod.fst ++ gone ++ s.appendPlace low → t.byteAt b = s.byteAt b) ∧
      OnlySched { s with temps := t.temps } t ∧ OnlyPoint s t ∧ s.r.wdesc ∉ t.temps ∧
      (∀ x : Word, x ≠ s.r.wdesc → x ≠ d → (x ∈ t.temps ↔ x ∈ s.temps))
  let temp := if d ∈ s.temps then [w] else []
  passes .input s.r.creg q n [] temp ∧ passes .output q s.r.creg n [] [] ∧
  (s.r.areg ≠ 0xFFFFFFFF#32 → s.Plain (w - 8#32) → m.toNat ≤ n →
    passes .vin s.r.creg q m.toNat [(s.w - 16#32, m)] ([w - 16#32] ++ temp)) ∧
  (s.Plain (w - 8#32) → n ≤ m.toNat → passes .vout q s.r.creg n [(w - 16#32, s.r.areg)] [s.w - 16#32])

/-- `outword` and `outbyte` on an internal channel where a process waits to input (R392, R393); pw.Temp is undefined
afterwards (log 37). The store by which the other process joins its list is the decision D36 of R322, log 1; that the
direction and the length are those of the process that comes second is the model's choice (log 38). -/
def Obligations.WordOutputCompletes : Prop := ∀ s : State, s.plain → s.mem.wf = true → s.WordOperand s.r.breg →
  let c := s.r.breg &&& 0xFFFFFFFC#32
  let d := s.wordAt c
  let w := d &&& 0xFFFFFFFC#32
  let low := d.getLsbD 0
  let q := s.wordAt (w - 16#32)
  s.kind c = .internal → d ≠ 0x80000000#32 → d ≠ 0x80000002#32 → q ≠ 0x80000001#32 → q ≠ 0x80000002#32 →
  q ≠ 0x80000003#32 → s.Plain c → s.Plain s.w → s.Plain (w - 16#32) → s.CanAppend low →
  [c, s.w, w - 16#32].Nodup → c ∉ s.appendPlace low → s.w ∉ s.appendPlace low →
  let sends (i : Instr) (len : Nat) : Prop :=
    (∀ k : Nat, k < len → s.Plain (q + BitVec.ofNat 32 k) ∧
      (q + BitVec.ofNat 32 k) &&& 0xFFFFFFFC#32 ∉ [c, s.w] ++ s.appendPlace low) →
    ∃ t : State, exec i s = .next t ∧ t.wordAt c = 0x80000000#32 ∧ Appended s t low w ∧
      (∀ k : Nat, k < len → t.byteAt (q + BitVec.ofNat 32 k) = s.r.areg.extractLsb' (8 * k) 8) ∧
      (∀ b : Word, (∀ k : Nat, k < len → b ≠ q + BitVec.ofNat 32 k) →
        (b &&& 0xFFFFFFFC#32) ∉ [c, s.w] ++ s.appendPlace low → t.byteAt b = s.byteAt b) ∧
      OnlySched (s.setTemp s.r.wdesc false) t ∧ OnlyPoint s t
  sends .outword 4 ∧ sends .outbyte 1

/-- Enabling the guards of an alternative (R410 to R414, R417): alternative start, skip, channel, timer and resource
guards. The guard stays in Areg; an enable with an operand in Breg takes that operand off the stack. -/
def Obligations.EnablingGuards : Prop := ∀ s : State, s.plain → s.mem.wf = true → s.Plain (s.w - 16#32) →
  let state := s.w - 16#32
  let enables (i : Instr) (ws : List (Word × Word)) : Prop := ∃ t : State, exec i s = .next t ∧
    (∀ x ∈ ws, t.wordAt x.1 = x.2) ∧ SameBut s t (ws.map Prod.fst) ∧ OnlyStore s t ∧
    t.r = { s.r with areg := s.r.areg, breg := s.r.creg, creg := t.r.creg }
  (∃ t : State, exec .alt s = .next t ∧ t.wordAt state = 0x80000001#32 ∧ SameBut s t [state] ∧ OnlyStore s t ∧
    t.r = s.r) ∧
  (s.Plain (s.w - 20#32) → ∃ t : State, exec .talt s = .next t ∧ t.wordAt state = 0x80000001#32 ∧
    t.wordAt (s.w - 20#32) = 0x80000002#32 ∧ SameBut s t [state, s.w - 20#32] ∧ OnlyStore s t ∧ t.r = s.r) ∧
  (s.r.areg = 0#32 → exec .enbs s = .next s ∧ enables .enbc [] ∧ enables .enbt [] ∧ enables .enbg []) ∧
  (s.r.areg ≠ 0#32 →
    (∃ t : State, exec .enbs s = .next t ∧ t.wordAt state = 0x80000003#32 ∧ SameBut s t [state] ∧ OnlyStore s t ∧
      t.r = s.r) ∧
    (s.WordOperand s.r.breg →
      let c := s.r.breg &&& 0xFFFFFFFC#32
      s.Plain c →
      (s.kind c = .internal → (s.wordAt c = 0x80000000#32 → enables .enbc [(c, s.r.wdesc)]) ∧
        (s.wordAt c ≠ 0x80000000#32 → s.wordAt c = s.r.wdesc → enables .enbc []) ∧
        (s.wordAt c ≠ 0x80000000#32 → s.wordAt c ≠ s.r.wdesc → enables .enbc [(state, 0x80000003#32)])) ∧
      (s.Plain (c + 4#32) → c ≠ state →
        (s.wordAt (c + 4#32) = 0x80000000#32 → enables .enbg [(c, s.r.wdesc)]) ∧
        (s.wordAt (c + 4#32) ≠ 0x80000000#32 → enables .enbg [(c, s.r.wdesc), (state, 0x80000003#32)]))) ∧
    (s.Plain (s.w - 20#32) → s.Plain (s.w - 24#32) →
      (s.wordAt (s.w - 20#32) = 0x80000002#32 → enables .enbt [(s.w - 20#32, 0x80000001#32), (s.w - 24#32, s.r.breg)]) ∧
      (s.wordAt (s.w - 20#32) = 0x80000001#32 → 0 < (s.wordAt (s.w - 24#32) - s.r.breg).toInt →
        enables .enbt [(s.w - 24#32, s.r.breg)]) ∧
      (s.wordAt (s.w - 20#32) = 0x80000001#32 → ¬ 0 < (s.wordAt (s.w - 24#32) - s.r.breg).toInt →
        enables .enbt [])))

/-- Waiting for a guard (R415, R416): with a guard ready the process goes on, with none it leaves the processor, put on the
timer list where an alarm time is set that is not past (here the list is empty); and the branch to the selected guard (R422).
That a pw.State that is none of an alternative is taken as one with no guard ready is the model's choice (log 76):
93_implementation_defined.md advises to refuse it. -/
def Obligations.AlternativeWait : Prop := ∀ s : State, s.plain → s.mem.wf = true → s.Plain s.w → s.Plain (s.w - 16#32) →
  let state := s.wordAt (s.w - 16#32)
  let low := s.r.wdesc.getLsbD 0
  let goesOn (i : Instr) (ws : List (Word × Word)) : Prop := ∃ t : State, exec i s = .next t ∧
    t.wordAt s.w = 0xFFFFFFFF#32 ∧ (∀ x ∈ ws, t.wordAt x.1 = x.2) ∧ SameBut s t ([s.w] ++ ws.map Prod.fst) ∧
    OnlyStore s t ∧ OnlyPoint s t
  let leaves (i : Instr) : Prop := ∃ t : State, exec i s = .next t ∧ Saved s t ∧ t.wordAt s.w = 0xFFFFFFFF#32 ∧
    t.wordAt (s.w - 16#32) = 0x80000002#32 ∧ SameBut s t [s.w, s.w - 16#32, s.w - 4#32, s.w - 12#32] ∧
    GoesIdle s t ∧ t.hi = s.hi ∧ t.lo = s.lo
  (∃ u : State, ReadMisses s u ∧ exec .altend s = .next { u with r := { s.r with iptr := s.r.iptr + s.wordAt s.w }, prefetch := [] }) ∧
  (state = 0x80000003#32 → goesOn .altwt []) ∧
  (state ≠ 0x80000003#32 → s.CanIdle → leaves .altwt) ∧
  (state = 0x80000003#32 → s.Plain (s.w - 24#32) → goesOn .taltwt [(s.w - 24#32, (s.sched low).clock)]) ∧
  (state ≠ 0x80000003#32 → s.Plain (s.w - 20#32) →
    (s.wordAt (s.w - 20#32) = 0x80000002#32 → s.CanIdle → leaves .taltwt) ∧
    (s.wordAt (s.w - 20#32) = 0x80000001#32 → s.Plain (s.w - 24#32) →
      0 < ((s.sched low).clock - s.wordAt (s.w - 24#32)).toInt →
      goesOn .taltwt [(s.w - 16#32, 0x80000003#32), (s.w - 24#32, (s.sched low).clock)]) ∧
    (s.wordAt (s.w - 20#32) = 0x80000001#32 → s.Plain (s.w - 24#32) →
      ¬ 0 < ((s.sched low).clock - s.wordAt (s.w - 24#32)).toInt → (s.sched low).tptr = 0x80000000#32 → s.CanIdle →
      ∃ t : State, exec .taltwt s = .next t ∧ Saved s t ∧ t.wordAt s.w = 0xFFFFFFFF#32 ∧
      t.wordAt (s.w - 16#32) = 0x80000002#32 ∧ t.wordAt (s.w - 20#32) = 0x80000000#32 ∧
      t.wordAt (s.w - 24#32) = s.wordAt (s.w - 24#32) + 1#32 ∧
      SameBut s t [s.w, s.w - 4#32, s.w - 12#32, s.w - 16#32, s.w - 20#32, s.w - 24#32] ∧
      t.sched low = { s.sched low with tptr := s.w, tnext := s.wordAt (s.w - 24#32) + 1#32 } ∧
      t.sched (!low) = s.sched (!low) ∧ GoesIdle s t))

/-- Disabling the guards of an alternative (R418 to R421): Areg tells whether this guard is the one selected, and the first
ready guard's offset goes to pw.Temp; `diss` leaves Creg in Breg, of the others Breg and Creg are undefined. A process that is
still on its timer list, here its front, is taken off it by `dist`, and pw.TLink becomes TimeNotSet.p, by the decision D37 of
R421 (log 1). -/
def Obligations.DisablingGuards : Prop := ∀ s : State, s.plain → s.mem.wf = true → s.Plain s.w →
  let disables (i : Instr) (chosen : Bool) (ws : List (Word × Word)) : Prop := ∃ t : State, exec i s = .next t ∧
    (∀ x ∈ ws, t.wordAt x.1 = x.2) ∧ SameBut s t (ws.map Prod.fst) ∧ OnlyStore s t ∧
    t.r = { s.r with areg := if chosen then 1#32 else 0#32, breg := t.r.breg, creg := t.r.creg }
  let ready (i : Instr) (ws : List (Word × Word)) : Prop :=
    (s.wordAt s.w = 0xFFFFFFFF#32 → disables i true (ws ++ [(s.w, s.r.areg)])) ∧
    (s.wordAt s.w ≠ 0xFFFFFFFF#32 → disables i false ws)
  (s.r.breg = 0#32 → disables .diss false [] ∧ disables .disc false [] ∧ disables .disg false [] ∧
    disables .dist false []) ∧
  (∀ t : State, exec .diss s = .next t → t.r.breg = s.r.creg) ∧
  (s.r.breg ≠ 0#32 → ready .diss [] ∧
    (s.WordOperand s.r.creg →
      let c := s.r.creg &&& 0xFFFFFFFC#32
      s.Plain c →
      (s.kind c = .internal → (s.wordAt c = 0x80000000#32 → disables .disc false []) ∧
        (s.wordAt c ≠ 0x80000000#32 → s.wordAt c = s.r.wdesc → disables .disc false [(c, 0x80000000#32)]) ∧
        (s.wordAt c ≠ 0x80000000#32 → s.wordAt c ≠ s.r.wdesc → ready .disc [])) ∧
      (s.wordAt c = 0x80000000#32 → disables .disg false []) ∧
      (s.Plain (c + 4#32) → c ≠ s.w →
        (s.wordAt c ≠ 0x80000000#32 → s.wordAt (c + 4#32) = 0x80000000#32 →
          disables .disg false [(c, 0x80000000#32)]) ∧
        (s.wordAt c ≠ 0x80000000#32 → s.wordAt (c + 4#32) ≠ 0x80000000#32 →
          ready .disg [(c, 0x80000000#32)]))) ∧
    (s.Plain (s.w - 20#32) →
      (s.wordAt (s.w - 20#32) = 0x80000002#32 → disables .dist false []) ∧
      (let low := s.r.wdesc.getLsbD 0
       let next := s.wordAt (s.w - 20#32)
       let q := s.sched low
       next ≠ 0x80000001#32 → next ≠ 0x80000002#32 → q.tptr = s.w → s.w ≠ 0x80000000#32 →
       next = 0x80000000#32 ∨ s.Plain (next - 24#32) → ∃ t : State, exec .dist s = .next t ∧
         t.wordAt (s.w - 20#32) = 0x80000002#32 ∧ SameBut s t [s.w - 20#32] ∧ t.r = { s.r with
           areg := 0#32, breg := t.r.breg, creg := t.r.creg } ∧
         OnlyStore (s.setSched low { q with
           tptr := next, tnext := if next = 0x80000000#32 then q.tnext else s.wordAt (next - 24#32) }) t)) ∧
    (s.Plain (s.w - 20#32) → s.Plain (s.w - 24#32) →
      (s.wordAt (s.w - 20#32) = 0x80000001#32 → 0 < (s.wordAt (s.w - 24#32) - s.r.creg).toInt → ready .dist []) ∧
      (s.wordAt (s.w - 20#32) = 0x80000001#32 → ¬ 0 < (s.wordAt (s.w - 24#32) - s.r.creg).toInt →
        disables .dist false [])))

/-- Internal channels as resource channels (R425, R427, R429, R432, R433): rc.Ptr is the word after the channel word,
rc.Id the one after that. The resource data structure (R428, R430, R431): a claimed resource is granted at once, else the
server leaves the processor; its queue is taken off and put back. The test by which the last channel leaves the queue and
the steps of the handing over are the decision D39 of R428, log 1. The rc.Ptr of a channel that is idle, in normal mode or the
last of a queue is any value (R432; that the model records the last ones is log 19). -/
def Obligations.ResourceInstructions : Prop :=
  (∀ s : State, s.plain → s.mem.wf = true → s.WordOperand s.r.areg →
    let c := s.r.areg &&& 0xFFFFFFFC#32
    s.kind c = .internal → s.Plain c → s.Plain (c + 4#32) → s.Plain (c + 8#32) →
    (s.wordAt (c + 8#32) = 0x80000000#32 → s.wordAt c = 0x80000000#32 →
      ∃ t : State, exec .mkrc s = .next t ∧ t.wordAt c = 0x80000002#32 ∧ t.wordAt (c + 4#32) = s.r.breg ∧
      t.wordAt (c + 8#32) = s.r.creg ∧ SameBut s t [c, c + 4#32, c + 8#32] ∧ OnlyStore s t ∧ OnlyIntRegs s t) ∧
    (s.wordAt (c + 8#32) ≠ 0x80000000#32 →
      ∃ u t : State, ReadMisses s u ∧ exec .mkrc s = .next t ∧ OnlyStack u t) ∧
    (s.wordAt (c + 8#32) = 0x80000000#32 → ∃ u t : State, ReadMisses s u ∧ exec .unmkrc s = .next t ∧ OnlyStack u t ∧
      t.r.areg = s.r.breg ∧ t.r.breg = s.r.creg) ∧
    (s.wordAt (c + 8#32) ≠ 0x80000000#32 → ∃ t : State, exec .unmkrc s = .next t ∧
      t.wordAt (c + 8#32) = 0x80000000#32 ∧
      t.wordAt c = (if s.wordAt c = 0x80000002#32 then 0x80000000#32 else s.wordAt c) ∧
      SameBut s t [c, c + 8#32] ∧ OnlyStore s t ∧
      t.r = { s.r with areg := s.r.breg, breg := s.r.creg, creg := t.r.creg }) ∧
    (s.wordAt (c + 8#32) ≠ 0x80000000#32 → s.wordAt c ≠ 0x80000002#32 →
      c ∉ s.rcTails → ∃ u t : State, ReadMisses s u ∧ exec .ldresptr s = .next t ∧ t = { u with
        r := { s.r with areg := s.wordAt (c + 4#32) }, draws := t.draws }) ∧
    (∃ u t : State, ReadMisses s u ∧ exec .ldresptr s = .next t ∧
      t = { u with r := { s.r with areg := t.r.areg }, draws := t.draws }) ∧
    (∃ t : State, exec .stresptr s = .next t ∧ t.wordAt (c + 4#32) = s.r.breg ∧ SameBut s t [c + 4#32] ∧
      OnlyStore s { t with rcTails := s.rcTails } ∧ t.r = { s.r with areg := s.r.creg, breg := t.r.breg, creg := t.r.creg })) ∧
  (∀ s : State, s.plain → s.mem.wf = true → s.WordOperand s.r.areg →
    let a := s.r.areg &&& 0xFFFFFFFC#32
    let b := s.r.breg &&& 0xFFFFFFFC#32
    let c := s.wordAt (a + 4#32)
    s.Plain a → s.Plain (a + 4#32) → s.Plain (a + 8#32) →
    (c = 0x80000000#32 → s.WordOperand s.r.breg → s.CanIdle → s.Plain (s.w - 16#32) →
      [a, s.w - 4#32, s.w - 12#32, s.w - 16#32].Nodup → ∃ t : State, exec .grant s = .next t ∧ Saved s t ∧
      t.wordAt a = s.r.wdesc ∧ t.wordAt (s.w - 16#32) = b ∧
      SameBut s t [a, s.w - 16#32, s.w - 4#32, s.w - 12#32] ∧ GoesIdle s t ∧ t.hi = s.hi ∧ t.lo = s.lo) ∧
    (c ≠ 0x80000000#32 → s.WordOperand s.r.breg → s.kind c = .internal → c &&& 3#32 = 0#32 → s.Plain b →
      s.Plain (c + 4#32) → s.Plain (c + 8#32) → [a + 4#32, b, c + 4#32, c + 8#32].Nodup →
      ∃ t : State, exec .grant s = .next t ∧ t.wordAt b = s.wordAt (c + 8#32) ∧
      t.wordAt (a + 4#32) = (if c = s.wordAt (a + 8#32) then 0x80000000#32 else s.wordAt (c + 4#32)) ∧
      t.wordAt (c + 4#32) = 0x80000000#32 ∧ t.wordAt (c + 8#32) = 0x80000000#32 ∧
      SameBut s t [b, a + 4#32, c + 4#32, c + 8#32] ∧ OnlyStore s { t with rcTails := s.rcTails } ∧ OnlyPoint s t) ∧
    (∃ t : State, exec .erdsq s = .next t ∧ t.wordAt (a + 4#32) = 0x80000000#32 ∧ SameBut s t [a + 4#32] ∧
      OnlyStore s t ∧ t.r = { s.r with areg := c, breg := s.wordAt (a + 8#32), creg := s.r.breg }) ∧
    (c = 0x80000000#32 → s.r.breg &&& 3#32 = 0#32 → s.r.creg &&& 3#32 = 0#32 →
      ∃ t : State, exec .irdsq s = .next t ∧ t.wordAt (a + 4#32) = s.r.breg ∧ t.wordAt (a + 8#32) = s.r.creg ∧
      SameBut s t [a + 4#32, a + 8#32] ∧ OnlyStore s { t with rcTails := s.rcTails } ∧ OnlyStacks s t) ∧
    (c ≠ 0x80000000#32 → s.r.breg &&& 3#32 = 0#32 → s.r.creg &&& 3#32 = 0#32 → s.kind s.r.creg = .internal →
      s.Plain (s.r.creg + 4#32) → s.r.creg ≠ a →
      ∃ t : State, exec .irdsq s = .next t ∧ t.wordAt (a + 4#32) = s.r.breg ∧ t.wordAt (s.r.creg + 4#32) = c ∧
      SameBut s t [a + 4#32, s.r.creg + 4#32] ∧ OnlyStore s { t with rcTails := s.rcTails } ∧ OnlyStacks s t))

/-! ## Protected mode and trap-handlers (44_protection_trap.md) -/

/-- The instructions that change the whole context of an L-process with the null trap-handler: `goprot` (R455), `restart`
(R459), `selth` (R468) and `tret` (R467). The control word loaded enables no watchpoint and has no reserved bit set; none but
that of `goprot` makes an L-process a P-process (R450). An instruction interrupted in the middle goes on where `restart`
finds the mark in ps.Xreg (log 29). That `goprot` always loads Ereg, Xreg and EptrReg is the decision D45 of R455, that bit
25 of the control word does not count for a P-process D46, that interrupts are enabled after it and after `restart` D47 (log
1); that no trap of the status just loaded comes first is log 43. After a deschedule trap `tret` with Areg 0 is no case of
the rule. -/
def Obligations.ContextInstructions : Prop := ∀ s : State, s.plain → s.mem.wf = true → s.r.th = 0x80000000#32 →
  let p := s.r.areg
  let d := s.r.breg
  let low := s.r.wdesc.getLsbD 0
  (p &&& 3#32 = 0#32 → d &&& 3#32 = 0#32 → s.Plain (s.w - 4#32) →
    (∀ k : Nat, k < 11 → s.Plain (p + BitVec.ofNat 32 (4 * k)) ∧ s.w - 4#32 ≠ p + BitVec.ofNat 32 (4 * k)) →
    (∀ k : Nat, k < 4 → s.Plain (d + BitVec.ofNat 32 (4 * k)) ∧ s.w - 4#32 ≠ d + BitVec.ofNat 32 (4 * k)) →
    let q : Quad Word := ⟨s.wordAt d, s.wordAt (d + 4#32), s.wordAt (d + 8#32), s.wordAt (d + 12#32)⟩
    anyRegionsMeet q = false → s.wordAt p &&& 0x31F40033#32 = 0#32 → s.wordAt (p + 16#32) &&& 3#32 = 0#32 →
    ∃ t : State, exec .goprot s = .next t ∧ t.wordAt (s.w - 4#32) = s.r.iptr ∧ SameBut s t [s.w - 4#32] ∧
      OnlyStore { s with intEnabled := true } t ∧ t.r = { s.r with
        status := (s.wordAt p &&& 0x7DFFFFFF#32) ||| 0x08000000#32, eptr := s.wordAt (p + 4#32)
        wdesc := s.wordAt (p + 16#32) ||| (s.r.wdesc &&& 1#32), iptr := s.wordAt (p + 20#32)
        areg := s.wordAt (p + 24#32), breg := s.wordAt (p + 28#32), creg := s.wordAt (p + 32#32)
        ereg := s.wordAt (p + 36#32), xreg := s.wordAt (p + 40#32), midInstr := false, pstate := p, wstub := s.r.wdesc
        region := q }) ∧
  (p &&& 3#32 = 0#32 → (∀ k : Nat, k < 11 → s.Plain (p + BitVec.ofNat 32 (4 * k))) →
    s.wordAt p &&& 0x39F40033#32 = 0#32 → s.wordAt (p + 16#32) &&& 3#32 = 0#32 →
    ∃ u t : State, ReadMisses s u ∧ exec .restart s = .next t ∧ t = { u with
      r := { s.r with
        status := s.wordAt p &&& 0x7FFFFFFF#32, eptr := s.wordAt (p + 4#32)
        wdesc := s.wordAt (p + 16#32) ||| (s.r.wdesc &&& 1#32), iptr := s.wordAt (p + 20#32)
        areg := s.wordAt (p + 24#32), breg := s.wordAt (p + 28#32), creg := s.wordAt (p + 32#32)
        ereg := s.wordAt (p + 36#32), xreg := s.wordAt (p + 40#32)
        midInstr := s.wordAt (p + 40#32) == Config.resumeMark }
      intEnabled := true, ws := t.ws, prefetch := [], draws := t.draws }) ∧
  (p = 0x80000000#32 → ∃ t : State, exec .selth s = .next t ∧ t.r.status = 0x80#32 ∧ t.r.th = p ∧ OnlyPointAndStatus s
    { t with r := { t.r with th := s.r.th } }) ∧
  (p &&& 3#32 = 0#32 → p ≠ 0x80000000#32 → s.Plain p → (s.wordAt p).getLsbD 31 = false →
    s.wordAt p &&& 0x31F40033#32 = 0#32 →
    ∃ u t : State, ReadMisses s u ∧ exec .selth s = .next t ∧ t.r.status = s.wordAt p &&& 0x77FFFFFF#32 ∧ t.r.th = p ∧
    OnlyPointAndStatus u { t with r := { t.r with th := s.r.th } }) ∧
  (s.w ≠ 0x80000000#32 → s.w ∉ s.descheduled → (∀ k : Nat, k < 12 → s.Plain (s.w + BitVec.ofNat 32 (4 * k))) →
    s.wordAt (s.w + 8#32) = 0x80000000#32 →
    (s.r.areg = 0#32 → s.wordAt s.w &&& 0x31F40033#32 = 0#32 → s.wordAt (s.w + 28#32) &&& 3#32 = 0#32 →
      ∃ t : State, exec .tret s = .next t ∧ t.wordAt s.w = s.wordAt s.w &&& 0x7FFFFFFF#32 ∧ SameBut s t [s.w] ∧
      OnlyStore s t ∧ t.r = { s.r with
        status := s.wordAt s.w &&& 0x77FFFFFF#32, wdesc := s.wordAt (s.w + 28#32) ||| (s.r.wdesc &&& 1#32), th := s.w
        iptr := s.wordAt (s.w + 32#32), areg := s.wordAt (s.w + 36#32), breg := s.wordAt (s.w + 40#32)
        creg := s.wordAt (s.w + 44#32), ereg := t.r.ereg, xreg := t.r.xreg, eptr := t.r.eptr }) ∧
    (s.r.areg ≠ 0#32 → s.Alone → ∃ t : State, exec .tret s = .next t ∧
      t.wordAt s.w = s.wordAt s.w &&& 0x7FFFFFFF#32 ∧ SameBut s t [s.w] ∧ GoesIdle s t ∧ t.hi = s.hi ∧ t.lo = s.lo)) ∧
  (s.w ≠ 0x80000000#32 → s.w ∉ s.descheduled → (∀ k : Nat, k < 12 → s.Plain (s.w + BitVec.ofNat 32 (4 * k))) →
    s.wordAt (s.w + 8#32) ≠ 0x80000000#32 → (s.sched low).fptr = 0x80000000#32 → s.r.areg = 0#32 →
    s.wordAt (s.w + 8#32) &&& 3#32 = 0#32 → s.wordAt (s.w + 12#32) &&& 3#32 = 0#32 →
    s.wordAt (s.w + 28#32) &&& 3#32 = 0#32 → s.wordAt s.w &&& 0x31F40033#32 = 0#32 →
    ∃ t : State, exec .tret s = .next t ∧ t.wordAt (s.w + 8#32) = 0x80000000#32 ∧
      t.sched low = { s.sched low with fptr := s.wordAt (s.w + 8#32), bptr := s.wordAt (s.w + 12#32) } ∧
      t.sched (!low) = s.sched (!low) ∧ SameBut s t [s.w, s.w + 8#32] ∧ OnlySched s t ∧ t.r.th = s.w ∧
      t.r.iptr = s.wordAt (s.w + 32#32))

/-! ## Floating point (45_floating_point.md, 46_floating_point_ops.md) -/

/-- The floating-point stack and the rounding mode (R530 to R535, R540, R541), and the class tests (R569, R570). Every
one but the four setters ends with the mode at nearest (45 R514). -/
def Obligations.FpStackAndMode : Prop := ∀ s : State, s.calm →
  let pushes (i : Instr) (e : FpEntry) : Prop :=
    exec i s = .next { s with r := { s.r with fpA := e, fpB := s.r.fpA, fpC := s.r.fpB, round := 1#2 } }
  let tests (i : Instr) (c : Bool) : Prop := exec i s = .next { s with
    r := { s.r with areg := if c then 1#32 else 0#32, breg := s.r.areg, creg := s.r.breg, round := 1#2 } }
  pushes .fpdup s.r.fpA ∧ pushes .fpldzerosn ⟨false, 0#64⟩ ∧ pushes .fpldzerodb ⟨true, 0#64⟩ ∧
  exec .fprev s = .next { s with r := { s.r with fpA := s.r.fpB, fpB := s.r.fpA, round := 1#2 } } ∧
  exec .fprn s = .next { s with r := { s.r with round := 1#2 } } ∧
  exec .fprz s = .next { s with r := { s.r with round := 0#2 } } ∧
  exec .fprp s = .next { s with r := { s.r with round := 2#2 } } ∧
  exec .fprm s = .next { s with r := { s.r with round := 3#2 } } ∧
  tests .fpnan s.r.fpA.nan ∧ tests .fpnotfinite s.r.fpA.special

/-- The floating-point loads, the integer loads and the load-and-operate instructions (R536 to R539, R553 to R556, R577 to
R579, R581): a load-and-operate is the operation on the stack with the loaded value pushed. A load that misses the cache
fetches a block (20_memory.md R106); which word of a double is read first is the model's choice (log 72). -/
def Obligations.FpLoads : Prop := ∀ (s : State) (p q : Word), s.calm → s.WordOperand s.r.areg →
  let a := s.r.areg &&& 0xFFFFFFFC#32
  let loads (i : Instr) (e : FpEntry) : Prop := ∃ (x : State) (c : Word) (n : Nat), ReadMisses s x ∧ exec i s = .next { x with
    r := { s.r with
      areg := s.r.breg, breg := s.r.creg, creg := c, fpA := e, fpB := s.r.fpA, fpC := s.r.fpB, round := 1#2 }
    draws := n }
  let indexed (i : Instr) (e : FpEntry) : Prop := ∃ (x : State) (b c : Word) (n : Nat), ReadMisses s x ∧ exec i s = .next { x with
    r := { s.r with
      areg := s.r.creg, breg := b, creg := c, fpA := e, fpB := s.r.fpA, fpC := s.r.fpB, round := 1#2 }
    draws := n }
  let operates (i j : Instr) (e : FpEntry) : Prop := ∃ (x : State) (c : Word) (n : Nat) (t : State),
    let u := { x with
      r := { s.r with areg := s.r.breg, breg := s.r.creg, creg := c, fpA := e, fpB := s.r.fpA, fpC := s.r.fpB }
      draws := n }
    ReadMisses s x ∧ exec i s = exec j u ∧ exec i s = .next t ∧ OnlyFp u t ∧ t.r.fpA.dbl = e.dbl ∧ t.r.fpB = s.r.fpB
  let v := s.wordAt p
  (s.CanRead false a p → loads .fpldnlsn ⟨false, v.setWidth 64⟩ ∧
    (∃ e : FpEntry, e.dbl = true ∧ e.special = false ∧ e.units = v.toInt * fpOne ∧ loads .fpi32tor64 e) ∧
    (∃ e : FpEntry, e.dbl = true ∧ e.special = false ∧ e.units = v.toNat * fpOne ∧ loads .fpb32tor64 e) ∧
    (-16777216 ≤ v.toInt → v.toInt ≤ 16777216 → s.NoFpTrap →
      ∃ e : FpEntry, e.dbl = false ∧ e.special = false ∧ e.units = v.toInt * fpOne ∧ loads .fpi32tor32 e) ∧
    (s.r.fpA.dbl = false → s.NoFpTrap → operates .fpldnladdsn .fpadd ⟨false, v.setWidth 64⟩ ∧
      operates .fpldnlmulsn .fpmul ⟨false, v.setWidth 64⟩)) ∧
  (s.CanRead false a p → s.CanRead false (a + 4#32) q → loads .fpldnldb ⟨true, s.wordAt q ++ v⟩ ∧
    (s.r.fpA.dbl = true → s.NoFpTrap → operates .fpldnladddb .fpadd ⟨true, s.wordAt q ++ v⟩ ∧
      operates .fpldnlmuldb .fpmul ⟨true, s.wordAt q ++ v⟩)) ∧
  (s.CanRead false (a + 4#32 * s.r.breg) p → indexed .fpldnlsni ⟨false, v.setWidth 64⟩) ∧
  (s.CanRead false (a + 8#32 * s.r.breg) p → s.CanRead false (a + 8#32 * s.r.breg + 4#32) q →
    indexed .fpldnldbi ⟨true, s.wordAt q ++ v⟩) ∧
  (let x (k : Nat) : Word := s.wordAt (a + BitVec.ofNat 32 (4 * k))
   let entry (k : Nat) : FpEntry :=
     if (x 0).getLsbD (2 + 2 * k) then ⟨true, x (2 + 2 * k) ++ x (1 + 2 * k)⟩ else ⟨false, (x (1 + 2 * k)).setWidth 64⟩
   s.plain → (∀ k : Nat, k < 7 → s.Plain (a + BitVec.ofNat 32 (4 * k))) → x 0 &&& 0xFFFFFFA8#32 = 0#32 →
   ∃ (y : State) (c : Word) (n : Nat), ReadMisses s y ∧ exec .fpldall s = .next { y with
     r := { s.r with
       areg := s.r.breg, breg := s.r.creg, creg := c, round := (x 0).setWidth 2, fpA := entry 0, fpB := entry 1
       fpC := entry 2 }
     draws := n })

/-- The floating-point stores (R542 to R545): `fpstnli32` stores the low word of the greatest integer not above the
number, where that has 64 bits. -/
def Obligations.FpStores : Prop := ∀ (s : State) (p : Word), s.calm → s.mem.wf = true → s.WordOperand s.r.areg →
  let a := s.r.areg &&& 0xFFFFFFFC#32
  let x := s.r.fpA
  let pops (r : Regs) : Prop := r = { s.r with
    areg := s.r.breg, breg := s.r.creg, creg := r.creg, fpA := s.r.fpB, fpB := s.r.fpC, fpC := r.fpC, round := 1#2 }
  let stores (i : Instr) (v : Word) : Prop := ∃ t : State, exec i s = .next t ∧
    (∀ k : Nat, k < 4 → t.byteAt (p + BitVec.ofNat 32 k) = v.extractLsb' (8 * k) 8) ∧ SameOutside s t p 4 ∧
    OnlyStore s t ∧ pops t.r
  (s.CanWrite false a p → s.watches a = false →
    (x.dbl = false → stores .fpstnlsn (x.bits.setWidth 32)) ∧
    (x.special = false → -(2 ^ 63) ≤ x.units / fpOne → x.units / fpOne < 2 ^ 63 →
      stores .fpstnli32 (BitVec.ofInt 32 (x.units / fpOne)))) ∧
  (s.plain → s.Plain a → s.Plain (a + 4#32) → x.dbl = true → ∃ t : State, exec .fpstnldb s = .next t ∧
    t.wordAt a = x.bits.setWidth 32 ∧ t.wordAt (a + 4#32) = (x.bits >>> 32).setWidth 32 ∧ SameOutside s t a 8 ∧
    OnlyStore s t ∧ pops t.r) ∧
  (s.plain → (∀ k : Nat, k < 7 → s.Plain (a + BitVec.ofNat 32 (4 * k))) →
    ∃ t : State, exec .fpstall s = .next t ∧ SameOutside s t a 28 ∧ OnlyStore s t ∧
    t.wordAt a = s.r.round.setWidth 32 ||| (if s.r.fpA.dbl then 4#32 else 0#32) |||
      (if s.r.fpB.dbl then 16#32 else 0#32) ||| (if s.r.fpC.dbl then 64#32 else 0#32) ∧
    (∀ z ∈ [(s.r.fpA, 4#32), (s.r.fpB, 12#32), (s.r.fpC, 20#32)], t.wordAt (a + z.2) = z.1.bits.setWidth 32 ∧
      t.wordAt (a + z.2 + 4#32) =
        if z.1.dbl then (z.1.bits >>> 32).setWidth 32 else s.wordAt (a + z.2 + 4#32)) ∧
    t.r = { s.r with
      areg := s.r.breg, breg := s.r.creg, creg := t.r.creg, fpA := t.r.fpA, fpB := t.r.fpB, fpC := t.r.fpC
      round := 1#2 })

/-- With no floating-point trap enabled every arithmetic instruction and conversion on operands of its types completes,
whatever the operands: the result has the type of the operation, the stack moves as the operation says, nothing but
floating-point flags is set, and the mode is nearest again, no agent coming between the steps of `fprem` (R546 to R551,
R557 to R562, R571 to R576, R580; 60 R703). `fpint` of a number delivers an integral value in the rounding mode, with
FPInexact where it is another one (R573; 45 R514). -/
def Obligations.FpArithmeticCompletes : Prop := ∀ s : State, s.calm → s.cpuMode = .whole → s.NoFpTrap →
  let same : Prop := s.r.fpA.dbl = s.r.fpB.dbl
  let monadic (i : Instr) (d : Bool) (r : FpEntry → Prop) : Prop := ∃ t : State, exec i s = .next t ∧ OnlyFp s t ∧
    t.r.fpA.dbl = d ∧ t.r.fpB = s.r.fpB ∧ t.r.fpC = s.r.fpC ∧ r t.r.fpA
  let any (_ : FpEntry) : Prop := True
  let d := s.r.fpA.dbl
  (same → ∀ i ∈ [Instr.fpadd, .fpsub, .fpmul, .fpdiv, .fprem], ∃ t : State, exec i s = .next t ∧ OnlyFp s t ∧
    t.r.fpA.dbl = d ∧ t.r.fpB = s.r.fpC) ∧
  (same → ∃ t : State, exec .fprange s = .next t ∧ OnlyFp s t ∧ t.r.fpA.dbl = d ∧ t.r.fpC = s.r.fpC) ∧
  (d = true → s.r.fpB.dbl = true → ∃ t : State, exec .fpadddbsn s = .next t ∧ OnlyFp s t ∧ t.r.fpA.dbl = false ∧
    t.r.fpB = s.r.fpC) ∧
  (∀ i ∈ [Instr.fpmulby2, .fpdivby2, .fpexpinc32, .fpexpdec32, .fpsqrt], monadic i d any) ∧
  monadic .fpabs d (fun e => s.r.fpA.nan = false → s.r.fpA.Formed → e.sign = false ∧ e.Formed ∧
    e.exponent = s.r.fpA.exponent ∧ e.fraction = s.r.fpA.fraction) ∧
  monadic .fpint d any ∧
  (s.r.fpA.special = false → ∃ t : State, exec .fpint s = .next t ∧ t.r.fpA.special = false ∧
    t.r.status = s.r.status ||| (if s.r.fpA.units % fpOne = 0 then 0#32 else 0x10000#32) ∧
    t.r.fpA.units = fpOne * s.r.fpA.nearInt s.r.round) ∧
  monadic .fprtoi32 d any ∧
  (d = false → monadic .fpr32tor64 true any) ∧ (d = true → monadic .fpr64tor32 false any) ∧
  (∀ i ∈ [(Instr.fpchki32, 31), (.fpchki64, 63)], exec i.1 s = .next { s with r := { s.r with
    round := 1#2
    status := if s.r.fpA.special = false ∧ -(2 ^ i.2) * fpOne ≤ s.r.fpA.units ∧ s.r.fpA.units < 2 ^ i.2 * fpOne
      then s.r.status else s.r.status ||| 0x104#32 } })

/-- What arithmetic delivers with no floating-point trap enabled. An operation whose exact result is a non-zero number of its
format delivers that number and sets no flag, in every rounding mode; one whose exact result is any non-zero real number
delivers the neighbour that the rounding mode chooses, or what an overflow gives, and sets the flags of an inexact result, of
an underflow and of an overflow (45 R514, R519, R520; 46 R546 to R549, R557 to R560, R562, R571, R572, R580). `fprem`, no
agent coming between its steps, and `fprange` take the multiple of the divisor that is nearest to the dividend, of two the
even one, off the dividend, exactly; `fprange` delivers the multiple too, unless it is too large; by an infinity both leave
the dividend (R550, R551; 45 R516). `fprtoi32` delivers the number that `fpint` does and tells whether it is in range (R576).
What an overflow delivers by rounding mode is the decision D53 of R519, log 53. -/
def Obligations.ArithmeticDeliversTheRoundedResult : Prop :=
 (∀ s : State, s.calm → s.NoFpTrap →
  let a := s.r.fpA
  let b := s.r.fpB
  let rounds (i : Instr) (d : Bool) (c : Cut) : Prop := ∃ t : State, exec i s = .next t ∧ DeliversRounded s t d c
  a.special = false →
  (b.special = false → a.dbl = b.dbl →
    (b.units + a.units ≠ 0 → rounds .fpadd a.dbl fun v => compare v (2 * (b.units + a.units))) ∧
    (b.units - a.units ≠ 0 → rounds .fpsub a.dbl fun v => compare v (2 * (b.units - a.units))) ∧
    (b.units * a.units ≠ 0 → rounds .fpmul a.dbl fun v => compare (v * fpOne) (2 * (b.units * a.units))) ∧
    (b.units * a.units ≠ 0 → rounds .fpdiv a.dbl fun v =>
      compare (v * (a.units * a.units)) (2 * (b.units * a.units * fpOne))) ∧
    (a.dbl = true → b.units + a.units ≠ 0 →
      rounds .fpadddbsn false fun v => compare v (2 * (b.units + a.units)))) ∧
  (0 < a.units → rounds .fpsqrt a.dbl fun v => if v < 0 then .lt else compare (v * v) (4 * (a.units * fpOne))) ∧
  (a.units ≠ 0 →
    rounds .fpmulby2 a.dbl (fun v => compare v (4 * a.units)) ∧
    rounds .fpdivby2 a.dbl (fun v => compare v a.units) ∧
    rounds .fpexpinc32 a.dbl (fun v => compare v (2 * (a.units * 2 ^ 32))) ∧
    rounds .fpexpdec32 a.dbl (fun v => compare (v * 2 ^ 32) (2 * a.units)) ∧
    (a.dbl = true → rounds .fpr64tor32 false fun v => compare v (2 * a.units)))) ∧
 (∀ (s : State) (r : FpEntry), s.calm → s.NoFpTrap → r.Formed → r.special = false → r.units ≠ 0 →
  let a := s.r.fpA
  let b := s.r.fpB
  let delivers (i : Instr) : Prop := ∃ t : State, exec i s = .next t ∧ OnlyFp s t ∧ t.r.fpA = r ∧
    t.r.status = s.r.status
  a.special = false →
  (b.special = false → a.dbl = b.dbl → r.dbl = a.dbl →
    (b.units + a.units = r.units → delivers .fpadd) ∧ (b.units - a.units = r.units → delivers .fpsub) ∧
    (b.units * a.units = r.units * fpOne → delivers .fpmul) ∧
    (a.units ≠ 0 → b.units * fpOne = r.units * a.units → delivers .fpdiv)) ∧
  (r.dbl = a.dbl →
    (a.units * 2 = r.units → delivers .fpmulby2) ∧ (a.units = r.units * 2 → delivers .fpdivby2) ∧
    (a.units * 2 ^ 32 = r.units → delivers .fpexpinc32) ∧ (a.units = r.units * 2 ^ 32 → delivers .fpexpdec32) ∧
    (0 < r.units → r.units * r.units = a.units * fpOne → delivers .fpsqrt)) ∧
  (a.dbl = false → r.dbl = true → a.units = r.units → delivers .fpr32tor64) ∧
  (a.dbl = true → r.dbl = false → a.units = r.units → delivers .fpr64tor32) ∧
  (a.dbl = true → b.dbl = true → r.dbl = false → b.special = false → b.units + a.units = r.units →
    delivers .fpadddbsn)) ∧
 (∀ s : State, s.calm → s.cpuMode = .whole → s.NoFpTrap →
  let a := s.r.fpA
  let b := s.r.fpB
  let gives (i : Instr) (flags : Word) (p : Regs → Prop) : Prop := ∃ t : State, exec i s = .next t ∧ OnlyFp s t ∧
    t.r.status = s.r.status ||| flags ∧ p t.r
  let number (e : FpEntry) (u : Int) : Prop := e.dbl = a.dbl ∧ e.Formed ∧ e.special = false ∧ e.units = u
  (a.dbl = b.dbl → b.special = false →
    (∀ n : Int, a.special = false → a.units ≠ 0 →
      let r := b.units - a.units * n
      let most : Nat := if a.dbl then 2 ^ 53 - 1 else 2 ^ 24 - 1
      2 * r.natAbs ≤ a.units.natAbs → (2 * r.natAbs = a.units.natAbs → n % 2 = 0) →
      gives .fprem 0#32 (fun x => number x.fpA r ∧ x.fpB = s.r.fpC) ∧
      (n.natAbs ≤ most → gives .fprange 0#32 fun x => number x.fpA r ∧ number x.fpB (n * fpOne) ∧ x.fpC = s.r.fpC) ∧
      (most < n.natAbs → gives .fprange 0x104#32 fun x =>
        x.fpA = ⟨a.dbl, if a.dbl then 0x7FF8020000000000#64 else 0x7FC01000#64⟩ ∧ x.fpC = s.r.fpC)) ∧
    (a.special = true → a.nan = false →
      gives .fprem 4#32 (fun x => x.fpA = b ∧ x.fpB = s.r.fpC) ∧
      gives .fprange 4#32 (fun x => x.fpA = b ∧ x.fpC = s.r.fpC ∧
        x.fpB = ⟨a.dbl, if a.sign = b.sign then 0#64 else if a.dbl then 0x8000000000000000#64 else 0x80000000#64⟩))) ∧
  (a.special = false →
    let k := a.nearInt s.r.round
    gives .fprtoi32 ((if a.units % fpOne = 0 then 0#32 else 0x10000#32) |||
      if -(2 ^ 31) ≤ k ∧ k < 2 ^ 31 then 0#32 else 0x104#32) fun x =>
        x.fpA.special = false ∧ x.fpA.units = fpOne * k ∧ x.fpB = s.r.fpB ∧ x.fpC = s.r.fpC))

/-- The comparisons of operands of one type with no trap enabled (R563 to R567): of two numbers as numbers; with a NaN
`fpgt`, `fpge` and `fplg` are false and invalid, and `fpordered` is false. -/
def Obligations.FpComparisons : Prop := ∀ s : State, s.calm → s.NoFpTrap → s.r.fpA.dbl = s.r.fpB.dbl →
  let a := s.r.fpA
  let b := s.r.fpB
  let compares (i : Instr) (c : Bool) (flags : Word) : Prop := ∃ (x y : FpEntry) (n : Nat), exec i s = .next { s with
    r := { s.r with
      areg := if c then 1#32 else 0#32, breg := s.r.areg, creg := s.r.breg, fpA := s.r.fpC, fpB := x, fpC := y
      round := 1#2, status := s.r.status ||| flags }
    draws := n }
  (a.special = false → b.special = false → compares .fpeq (b.units == a.units) 0#32 ∧
    compares .fpgt (decide (a.units < b.units)) 0#32 ∧ compares .fpge (decide (a.units ≤ b.units)) 0#32 ∧
    compares .fplg (b.units != a.units) 0#32) ∧
  (a.nan = true ∨ b.nan = true → ∀ i ∈ [Instr.fpgt, .fpge, .fplg], compares i false 0x104#32) ∧
  (∃ t : State, exec .fpordered s = .next t ∧ t = { s with r := { s.r with
      areg := if a.nan || b.nan then 0#32 else 1#32, breg := s.r.areg, creg := s.r.breg, round := 1#2
      status := t.r.status } } ∧
    (a.special = false → b.special = false → t.r.status = s.r.status))

/-- What exceptional operations deliver where no trap is enabled (R516, R517, R519), and the trap each takes where its
trap is enabled (60 R701, R703, R710 to R715). -/
def Obligations.FpExceptions : Prop := ∀ s : State, s.calm → s.cpuMode = .whole →
  let a := s.r.fpA
  let b := s.r.fpB
  let te (n : Nat) : Bool := s.r.status.getLsbD n
  let delivers (i : Instr) (flags : Word) (r : FpEntry → Prop) : Prop := ∃ t : State, exec i s = .next t ∧
    OnlyFp s t ∧ t.r.status = s.r.status ||| flags ∧ r t.r.fpA
  let traps (i : Instr) (et : Word) : Prop := Traps s (exec i s) .after .error (s.r.isP && s.r.watch) et
  (s.NoFpTrap →
    (∀ z ∈ [(Instr.fpadd, 0x7F800000#64, 0xFF800000#64, 0x7FC80000#64),
        (.fpsub, 0x7F800000#64, 0x7F800000#64, 0x7FC80000#64), (.fpmul, 0#64, 0x7F800000#64, 0x7FD00000#64),
        (.fpdiv, 0#64, 0#64, 0x7FC00000#64), (.fpdiv, 0x7F800000#64, 0x7F800000#64, 0x7FE00000#64),
        (.fprem, 0x7F800000#64, 0x3F800000#64, 0x7FC04000#64), (.fprem, 0x3F800000#64, 0#64, 0x7FC02000#64)],
      b = ⟨false, z.2.1⟩ → a = ⟨false, z.2.2.1⟩ → delivers z.1 0x104#32 (· = ⟨false, z.2.2.2⟩)) ∧
    (a = ⟨false, 0xBF800000#64⟩ → delivers .fpsqrt 0x104#32 (· = ⟨false, 0x7FC40000#64⟩)) ∧
    (a.dbl = b.dbl → a.nan = true → b.nan = false → a.bits.getLsbD (if a.dbl then 51 else 22) = true →
      ∀ i ∈ [Instr.fpadd, .fpsub, .fpmul, .fpdiv, .fprem], delivers i 4#32 (· = a)) ∧
    (a.dbl = b.dbl → a.special = false → a.units = 0 → b.special = false → b.units ≠ 0 →
      delivers .fpdiv 0x404#32 fun e => e.dbl = a.dbl ∧ e.special = true ∧ e.fraction = 0 ∧
        e.sign = (a.sign != b.sign))) ∧
  (te 3 = true → a.special = true →
    (a.dbl = b.dbl → ∀ i ∈ [Instr.fpadd, .fpsub, .fpmul, .fpdiv, .fprem, .fpeq, .fpgt, .fpge, .fplg, .fpordered],
      traps i 7#32) ∧
    ∀ i ∈ [Instr.fpmulby2, .fpdivby2, .fpexpinc32, .fpexpdec32, .fpabs, .fpsqrt, .fpint, .fprtoi32, .fpchki32, .fpchki64],
      traps i 7#32) ∧
  (te 3 = false → a.special = false →
    (te 9 = true → a.units < 0 → traps .fpsqrt 8#32) ∧
    (te 11 = true → a.dbl = b.dbl → a.units = 0 → b.special = false → b.units ≠ 0 → traps .fpdiv 9#32) ∧
    (te 13 = true → a.exponent = (if a.dbl then 2046 else 254) → traps .fpmulby2 10#32)) ∧
  (te 15 = true → a.exponent = 0 → a.fraction ≠ 0 → traps .fpdivby2 11#32) ∧
  (te 17 = true → a.special = false → a.units % fpOne ≠ 0 → traps .fpint 12#32)

/-! ## Virtual links, configuration, caches (47_vcp_config.md) -/

/-- The instructions on the record of a virtual link (R651 to R657). `initvlcb` also takes the link off the VCP's queues (log
42), `swapbfr` leaves a packet that the buffer holds recorded as held (log 75), and that none of them deactivates a channel in
a stopping VCP is the model's choice (log 57). -/
def Obligations.VirtualLinkHeaders : Prop := ∀ (s : State) (k : Nat) (out : Bool), s.plain → s.mem.wf = true →
  s.WordOperand s.r.areg → s.kind (s.r.areg &&& 0xFFFFFFFC#32) = .virt k out → s.vcp.mode ≠ .resetting →
  let v := s.vlcb k
  let b := s.r.breg &&& 0xFFFFFFFC#32
  let n := s.r.breg.toNat
  let header := s.conf.hdrAreaBase + 4#32 * v.offset
  let becomes (i : Instr) (u : Vlcb → Vlcb) (r : Regs → Prop) : Prop := ∃ t : State, exec i s = .next t ∧
    OnlyLink s t k ∧ SameMemory s t ∧ t.vlcb k = u (t.vlcb k) ∧ r t.r ∧ OnlyIntRegs s t
  (s.WordOperand s.r.breg → ∃ t : State, exec .initvlcb s = .next t ∧
    OnlyLink s { t with vcp := { t.vcp with links := s.vcp.links } } k ∧ SameMemory s t ∧ OnlyIntRegs s t ∧
    t.r.areg = s.r.creg ∧ t.vlcb k = { v with
      null := true, link := (t.vlcb k).link, offset := (t.vlcb k).offset, buffer := b, held := none
      inp := ⟨false, false, false, false, .empty, [], none, none, none⟩
      out := ⟨false, false, false, false, .empty, [], none, none, none⟩ } ∧
    ∀ j : Nat, t.vcp.links.get j =
      let q := s.vcp.links.get j
      { q with
        hiData := q.hiData.filter (· != k), loData := q.loData.filter (· != k)
        hiAck := q.hiAck.filter (· != k), loAck := q.loAck.filter (· != k) }) ∧
  (n ≤ 3 → (v.inp.active = false ∧ v.out.active = false) ∨
      (v.inp.busy = false ∧ v.out.busy = false ∧ v.held = none) ∨ v.link.toNat = n →
    (s.r.creg.toNat ≤ 0xFFFE → becomes .sethdr
      (fun u => { v with link := BitVec.ofNat 2 n, offset := s.r.creg, null := u.null }) fun _ => True) ∧
    (s.r.creg = 0xFFFFFFFF#32 → becomes .sethdr
      (fun u => { v with link := BitVec.ofNat 2 n, null := u.null }) fun _ => True)) ∧
  (s.r.breg = 0xFFFFFFFF#32 → v.inp.active = false → v.out.active = false →
    becomes .sethdr (fun _ => { v with null := true }) fun _ => True) ∧
  (0 < n → n ≤ 3 → (∀ j : Nat, j < n → s.Plain (s.r.creg + BitVec.ofNat 32 j)) →
    becomes .writehdr (fun u => { v with
      null := u.null, hlen := BitVec.ofNat 8 n, h0 := s.byteAt s.r.creg
      h1 := if 1 < n then s.byteAt (s.r.creg + 1#32) else v.h1
      h2 := if 2 < n then s.byteAt (s.r.creg + 2#32) else v.h2 }) fun _ => True) ∧
  (3 < n → n ≤ 255 → v.offset ≠ 0xFFFFFFFF#32 →
    (∀ j : Nat, j < n → s.Plain (s.r.creg + BitVec.ofNat 32 j) ∧ s.Plain (header + BitVec.ofNat 32 j)) →
    ∃ t : State, exec .writehdr s = .next t ∧ OnlyLink s t k ∧ OnlyIntRegs s t ∧
      t.vlcb k = { v with null := (t.vlcb k).null, hlen := BitVec.ofNat 8 n } ∧
      (∀ j : Nat, j < n → t.byteAt (header + BitVec.ofNat 32 j) = s.byteAt (s.r.creg + BitVec.ofNat 32 j)) ∧
      SameOutside s t header n) ∧
  (v.null = false → n = v.hlen.toNat → (∀ j : Nat, j < n → s.Plain (s.r.creg + BitVec.ofNat 32 j)) →
    (3 < n → ∀ j : Nat, j < n → s.Plain (header + BitVec.ofNat 32 j)) →
    ∃ t : State, exec .readhdr s = .next t ∧ OnlyStore s t ∧ OnlyIntRegs s t ∧
      (∀ j : Nat, j < n → t.byteAt (s.r.creg + BitVec.ofNat 32 j) =
        if n ≤ 3 then [v.h0, v.h1, v.h2].getD j 0#8 else s.byteAt (header + BitVec.ofNat 32 j)) ∧
      SameOutside s t s.r.creg n) ∧
  SetsABC s .insphdr (v.link.setWidth 32) (if v.null then 0xFFFFFFFF#32 else v.hlen.setWidth 32)
    (if v.null = false ∧ 3 < v.hlen.toNat then v.offset else 0xFFFFFFFF#32) ∧
  (out = false → s.WordOperand s.r.breg →
    becomes .swapbfr (fun _ => { v with buffer := b }) fun r => r.areg = v.buffer ∧ r.breg = s.r.creg) ∧
  (out = false → SetsABC s .readbfr v.buffer
    (match v.held with
      | none => 0#32
      | some h => BitVec.ofNat 32 h.1)
    (match v.held with
      | none => 0#32
      | some h => if h.2 then 1#32 else 2#32))

/-- Single channels: the length of the last variable-length input (R396), the reset and the type of a channel (R437,
R439), and a stop of a virtual output channel, with nothing to be acknowledged and with a packet that is (R438; how the record
of the channel says so is log 36, that a stopping VCP deactivates the channel 47 R643; that a second `stopch` of a channel
that is stopping goes on is log 73, and that `ldchstatus` and a `setchmode` that deactivates change nothing more in a stopping
VCP log 57). The mode of a channel (R661): of a
virtual channel with nothing pending, and the deactivation of an event channel; and the status of a virtual channel in
normal mode (R662), its undefined bits apart. -/
def Obligations.SingleChannels : Prop :=
  (∀ s : State, s.plain → s.mem.wf = true →
    (s.Plain (s.w - 16#32) → s.wordAt (s.w - 16#32) ≠ 0xFFFFFFFF#32 → Pushes s .ldcnt (s.wordAt (s.w - 16#32))) ∧
    (s.WordOperand s.r.areg →
      let c := s.r.areg &&& 0xFFFFFFFC#32
      (s.kind c = .internal → SetsA s .chantype 1#32) ∧
      (s.kind c ≠ .internal → s.kind c ≠ .invalid → SetsA s .chantype 0#32) ∧
      (s.kind c = .internal → s.Plain c → ∃ t : State, exec .resetch s = .next t ∧ t.wordAt c = 0x80000000#32 ∧
        SameBut s t [c] ∧ OnlyStore s t ∧ t.r = { s.r with areg := s.wordAt c }) ∧
      (∀ k : Nat, s.kind c = .virt k true → s.vcp.mode ≠ .resetting → (s.vlcb k).out.state = .empty →
        ∃ t : State, exec .stopch s = .next t ∧ OnlyLink s t k ∧ SameMemory s t ∧ t.vlcb k = s.vlcbFor k true ∧
          OnlyPoint s t) ∧
      (∀ (k : Nat) (d p n m : Word) (var : Bool), s.kind c = .virt k true → s.vcp.mode = .running →
        (s.vlcb k).out.state = .comm d p n var m true → (s.vlcb k).out.stopping = false → s.CanIdle →
        s.ctl.gross = .running → ∃ t : State, exec .stopch s = .next t ∧ Saved s t ∧
          t.vlcb k = { (s.vlcb k) with out := { (s.vlcb k).out with
            stopping := true, state := .empty, stoppers := (s.vlcb k).out.stoppers ++ [s.r.wdesc], pendingPacket := none
            prior := some d } } ∧
          (∀ j : Nat, j ≠ k → t.vlcb j = s.vlcb j) ∧ SameBut s t [s.w - 4#32, s.w - 12#32] ∧
          GoesIdle { s with vcp := { s.vcp with vlcbs := t.vcp.vlcbs } } t ∧ t.hi = s.hi ∧ t.lo = s.lo))) ∧
  (∀ s : State, s.plain → s.mem.wf = true → s.WordOperand s.r.areg →
    let c := s.r.areg &&& 0xFFFFFFFC#32
    (∀ (k : Nat) (out : Bool), s.kind c = .virt k out → s.vcp.mode ≠ .resetting →
      let v := s.vlcb k
      let e := if out then v.out else v.inp
      let sets (on : Bool) : Prop := ∃ t : State, exec .setchmode s = .next t ∧ OnlyLink s t k ∧ SameMemory s t ∧
        t.vlcb k = (if out then { v with out := { v.out with active := on } }
          else { v with inp := { v.inp with active := on } }) ∧ t.r.areg = s.r.creg ∧ OnlyIntRegs s t
      (s.r.breg = 0#32 → sets false) ∧
      (s.r.breg = 1#32 → v.null = false → s.vcp.mode ≠ .stopping → e.pendingPacket = none → e.pendingSchedule = none →
        e.stoppers = [] → sets true) ∧
      (e.resource = false → e.state = .empty → e.pendingSchedule = none → e.stopping = false → e.stoppers = [] →
        ∃ t : State, exec .ldchstatus s = .next t ∧ OnlyStack s t ∧ t.r.breg = 0x80000000#32 ∧ t.r.areg &&& 0x8000003B#32 = 0x80000000#32 |||
          (if e.active then 1#32 else 0#32) ||| (if e.pendingPacket.isSome then 16#32 else 0#32)) ∧
      (∀ (d p l m : Word) (x y : Bool), e.resource = false → e.state = .comm d p l x m y → e.stopping = false →
        ∃ t : State, exec .ldchstatus s = .next t ∧ OnlyStack s t ∧ t.r.breg = d ∧
          t.r.areg.getLsbD 0 = e.active ∧ t.r.areg.getLsbD 1 = false ∧ t.r.areg.getLsbD 31 = true)) ∧
    (∀ (x : Nat) (out : Bool), s.kind c = .event x out → s.Backed (c ^^^ 4#32) → s.r.breg = 0#32 →
      ∃ t : State, exec .setchmode s = .next t ∧ t.wordAt (c ^^^ 4#32) = 0x80000001#32 ∧ SameBut s t [c ^^^ 4#32] ∧
        OnlyStore s t ∧ t.r.areg = s.r.creg ∧ OnlyIntRegs s t))

/-- A communication on a virtual channel that no process uses (R385, R386, R388): the process is saved and leaves the
processor, and the end of the channel records its request; the link of an activated output is queued for a data packet at the
priority of the process, of a deactivated one the packet is held. On a byte-stream channel the channel word holds the process,
and pw.Link and pw.Pointer the base and the limit of the message (R387); which of the two slots holds which is open, and that
the limit is the address behind the last byte is the model's choice (log 55), which link and direction the channel has its
assumption (log 16); a message of no bytes (R390) and a variable-length one (R394), whose effect the sources do not state,
stop (log 51). A rise of EventIn meets the process that waits to input on an event channel (R440), and so does the VCP where
the event has come before it: the process runs, and EventOut goes high. The store by which a process joins its list
(`Appended`) is the decision D36 of R322, that the links carry whole packets D40 (log 1, log 34); that the VCP's part is an
event of its own is log 6, and that the model records whose message is in pw.Temp log 37. -/
def Obligations.ExternalCommunication : Prop :=
  (∀ (s : State) (k : Nat) (out : Bool), s.plain → s.mem.wf = true → s.WordOperand s.r.breg →
    s.kind (s.r.breg &&& 0xFFFFFFFC#32) = .virt k out → s.vcp.mode ≠ .resetting → s.vcp.mode ≠ .stopping → s.ctl.gross = .running →
    let v := s.vlcb k
    let e := if out then v.out else v.inp
    let low := s.r.wdesc.getLsbD 0
    let q := s.vcp.links.get v.link.toNat
    (s.links.get v.link.toNat).vcpMode.getLsbD 0 = false → e.state = .empty → e.pendingSchedule = none → e.stopping = false →
    e.resource = false → s.CanIdle → s.Plain s.w → s.Plain (s.w - 16#32) →
    let waits (i : Instr) (p n : Word) (var temp : Bool) (ws : List (Word × Word)) : Prop := ∃ t : State,
      exec i s = .next t ∧ Saved s t ∧ t.wordAt (s.w - 16#32) = p ∧ (∀ x ∈ ws, t.wordAt x.1 = x.2) ∧
      SameBut s t ([s.w - 4#32, s.w - 12#32, s.w - 16#32] ++ ws.map Prod.fst) ∧
      (∀ j : Nat, j ≠ k → t.vlcb j = s.vlcb j) ∧
      t.vlcb k = (if out then { v with out := { e with
          state := .comm s.r.wdesc p n var 0#32 false, prior := none
          pendingPacket := if e.active then e.pendingPacket else some low } }
        else { v with inp := { e with state := .comm s.r.wdesc p n var 0#32 false, prior := none } }) ∧
      t.vcp = { s.vcp with
        vlcbs := t.vcp.vlcbs
        links := if out && e.active then s.vcp.links.set v.link.toNat
            (if low then { q with loData := q.loData ++ [k] } else { q with hiData := q.hiData ++ [k] })
          else s.vcp.links } ∧
      GoesIdle { (s.setTemp s.r.wdesc temp) with vcp := t.vcp } t ∧ t.hi = s.hi ∧ t.lo = s.lo
    (out = false → waits .input s.r.creg s.r.areg false false [] ∧
      (s.r.areg ≠ 0xFFFFFFFF#32 → waits .vin s.r.creg s.r.areg true false [])) ∧
    (out = true → waits .output s.r.creg s.r.areg false false [] ∧ waits .vout s.r.creg s.r.areg true false [] ∧
      waits .outword s.w 4#32 false true [(s.w, s.r.areg)] ∧ waits .outbyte s.w 1#32 false true [(s.w, s.r.areg)])) ∧
  (∀ (s : State) (m : Nat), s.plain → s.mem.wf = true → s.WordOperand s.r.breg →
    let c := s.r.breg &&& 0xFFFFFFFC#32
    let q := s.vcp.links.get (m % 4)
    s.kind c = .byteStream m → (s.links.get (m % 4)).vcpMode.getLsbD 0 = true →
    (s.links.get (m % 4)).vcpMode.getLsbD 2 = false → s.vcp.mode ≠ .resetting →
    (if m < 4 then q.byteOut = none
      else q.byteIn = none ∧ (s.wordAt c = 0x80000000#32 ∨ s.wordAt c = s.r.wdesc)) →
    s.CanIdle → s.Plain s.w → s.Plain (s.w - 8#32) → s.Plain (s.w - 16#32) → s.Backed c →
    let waits (i : Instr) (p n : Word) (temp : Bool) (ws : List (Word × Word)) : Prop := ∃ t : State,
      let b : ByteComm := ⟨s.r.wdesc, p, n, 0#32, false⟩
      exec i s = .next t ∧ Saved s t ∧ t.wordAt c = s.r.wdesc ∧
      (if Config.byteStreamBaseInLink then t.wordAt (s.w - 8#32) = p ∧ t.wordAt (s.w - 16#32) = p + n
        else t.wordAt (s.w - 8#32) = p + n ∧ t.wordAt (s.w - 16#32) = p) ∧
      (∀ x ∈ ws, t.wordAt x.1 = x.2) ∧
      SameBut s t ([c, s.w - 4#32, s.w - 8#32, s.w - 12#32, s.w - 16#32] ++ ws.map Prod.fst) ∧
      t.vcp = { s.vcp with
        links := s.vcp.links.set (m % 4) (if m < 4 then { q with byteOut := some b } else { q with byteIn := some b }) } ∧
      GoesIdle { (s.setTemp s.r.wdesc temp) with vcp := t.vcp } t ∧ t.hi = s.hi ∧ t.lo = s.lo
    (4 ≤ m → (s.r.areg ≠ 0#32 → waits .input s.r.creg s.r.areg false []) ∧
      (s.r.areg = 0#32 → exec .input s = .fault .byteStream) ∧
      (s.r.areg ≠ 0xFFFFFFFF#32 → exec .vin s = .fault .byteStream)) ∧
    (m < 4 → (s.r.areg ≠ 0#32 → waits .output s.r.creg s.r.areg false []) ∧
      (s.r.areg = 0#32 → exec .output s = .fault .byteStream) ∧ exec .vout s = .fault .byteStream ∧
      waits .outword s.w 4#32 true [(s.w, s.r.areg)] ∧ waits .outbyte s.w 1#32 true [(s.w, s.r.areg)])) ∧
  (∀ (s : State) (e : Nat) (rises : Bool), s.agenda = [if rises then .eventPin e true else .eventServe e] →
    s.inChain = false → s.cache.waiting = false → s.trouble = none → s.mem.wf = true → e < 4 → s.holding = false →
    let p := s.events.get e
    let c : Word := 0x80000020#32 + BitVec.ofNat 32 (8 * e)
    let d := s.wordAt c
    s.kind c = .event e false → (if rises then p.inLevel = false else p.ready = true) → p.enabled = false →
    s.wordAt (c + 4#32) = 0x80000000#32 → d ≠ 0x80000000#32 → d ≠ 0x80000001#32 → d ≠ 0x80000002#32 → s.Backed c →
    s.Backed (c + 4#32) → s.CanAppend (d.getLsbD 0) →
    c ∉ s.appendPlace (d.getLsbD 0) →
    ∃ t : State, step s = .next t ∧ t.wordAt c = 0x80000000#32 ∧
      Appended s t (d.getLsbD 0) (d &&& 0xFFFFFFFC#32) ∧ SameBut s t ([c] ++ s.appendPlace (d.getLsbD 0)) ∧
      OnlySched { s with
        agenda := [], events := s.events.set e { p with
          inLevel := rises || p.inLevel, outLevel := true, ready := false } } t)

/-- The virtual channel processor as an agent (R386, 47 R640, R642): it sends the next data packet of the output it has to
serve next, of at most 32 bytes; the acknowledge of the last packet makes the outputting process ready, an earlier one queues
the next packet; the last data packet of a message that fits is stored for the process inputting, acknowledged, and makes it
ready, and so does one that was held when the process asked for it; a variable-length input has the length in pw.Length then,
or LengthError.p where the message was too long, and no byte beyond its place changes (R386). A message too long for its place
leaves any value there (log 38). On a byte-stream link (R387) an output goes out in packets of at most 32 bytes, each after
the acknowledge of the one before; an input is announced by its length, whose bytes the model sends with the least significant
first (log 34) on the link that log 16 presumes, its data are stored and acknowledged, and the channel word is empty when
either ends; a packet for an input that no process has asked for waits, makes a waiting alternative ready (log 68), and holds
up no acknowledge behind it. An error of a link that localizes errors resets the link, whose packets in transit are lost
(R648, R649); one of a link that does not halts the processor, as a header out of range does, and the VCP discards packets
(R643, R648; 60 R740, R745), which for the header is the model's choice (log 31). The store by which a process joins its list
(`Appended`) is the decision D36 of R322, that the links carry whole packets D40 (log 1, log 34); the order of the queues of
one priority is log 63, that each move of the VCP is an event of its own log 6, and which slots an output leaves undefined log
37. -/
def Obligations.VirtualChannelProcessor : Prop := ∀ (s : State) (n k : Nat) (v : Vlcb), s.inChain = false →
  s.cache.waiting = false → s.trouble = none → s.mem.wf = true → n < 4 → s.ctl.gross = .running →
  let l := s.links.get n
  let q := s.vcp.links.get n
  (s.vcp.mode = .running → s.vcp.vlcbs.lookup k = some v → v.link.toNat = n → l.vcpMode.getLsbD 0 = false →
    l.vcpMode.getLsbD 2 = false →
    (∀ (d p len done : Word) (var low : Bool) (q' : LinkQueues), s.agenda = [.vcpSend n] → l.started = true →
      l.resetOutputDone = false → q.next = some (k, false, low, q') → v.out.state = .comm d p len var done false →
      v.out.active = true → v.out.stopping = false → v.hlen.toNat ≤ 3 →
      let m := Nat.min 32 (len.toNat - done.toNat)
      (∀ j : Nat, j < m → s.legal false false (p + done + BitVec.ofNat 32 j) = true) →
      ∃ u t : State, ReadMisses s u ∧ step s = .next t ∧ (∀ j : Nat, j ≠ k → t.vlcb j = s.vlcb j) ∧
        t.vlcb k = { v with out := { v.out with state := .comm d p len var (done + BitVec.ofNat 32 m) true } } ∧
        t = { u with
          agenda := []
          vcp := { s.vcp with
            vlcbs := t.vcp.vlcbs
            links := s.vcp.links.set n { q' with sent := q'.sent ++ [{
              header := [v.h0, v.h1, v.h2].take v.hlen.toNat
              data := (List.range m).map fun j => s.byteAt (p + done + BitVec.ofNat 32 j)
              last := done + BitVec.ofNat 32 m == len }] } } }) ∧
    (∀ (h : Byte) (d p len done : Word) (data : List Byte) (last var sent : Bool) (rest : List Packet),
      s.agenda = [.vcpAccept n] → q.arrived = ⟨[h], data, last⟩ :: rest →
      l.minHeader.toNat ≤ h.toNat → h.toNat ≤ l.maxHeader.toNat → l.hdrOffset.toNat + k = h.toNat →
      let low := d.getLsbD 0
      let x := d &&& 0xFFFFFFFC#32
      s.CanAppend low →
      (data = [] → last = false → v.out.state = .comm d p len var done true → v.out.active = true →
        v.out.stopping = false →
        let gone := (if d ∈ s.temps then [x] else []) ++ if var then [x - 16#32] else []
        (done = len → (∀ a ∈ gone, s.Plain a ∧ a ∉ s.appendPlace low) → ∃ t : State, step s = .next t ∧
          Appended s t low x ∧ t.vlcb k = { v with out := { v.out with state := .empty } } ∧
          SameBut s t (gone ++ s.appendPlace low) ∧
          OnlySched { (s.setTemp d false) with
            agenda := [], vcp := { s.vcp with vlcbs := t.vcp.vlcbs, links := s.vcp.links.set n { q with arrived := rest } } } t) ∧
        (done ≠ len → ∃ t : State, step s = .next t ∧
          t.vlcb k = { v with out := { v.out with state := .comm d p len var done false } } ∧
          t = { s with
            agenda := []
            vcp := { s.vcp with
              vlcbs := t.vcp.vlcbs
              links := s.vcp.links.set n (if low then { q with arrived := rest, loData := q.loData ++ [k] }
                else { q with arrived := rest, hiData := q.hiData ++ [k] }) } })) ∧
      (last = true → data.length ≤ 32 → v.inp.state = .comm d p len var done sent → v.inp.active = true →
        v.inp.stopping = false → v.held = none →
        let total := done.toNat + data.length
        let length := if var then [x - 16#32] else []
        let ends (t : State) (others : List Word) : Prop := step s = .next t ∧ Appended s t low x ∧
          (∀ a : Word, a ∉ others → a &&& 0xFFFFFFFC#32 ∉ length ++ s.appendPlace low → t.byteAt a = s.byteAt a) ∧
          t.vlcb k = { v with held := none, inp := { v.inp with state := .empty } } ∧
          OnlySched { s with
            agenda := []
            vcp := { s.vcp with
              vlcbs := t.vcp.vlcbs
              links := s.vcp.links.set n (if low then { q with arrived := rest, loAck := q.loAck ++ [k] }
                else { q with arrived := rest, hiAck := q.hiAck ++ [k] }) } } t
        (∀ a ∈ length, s.Plain a ∧ a ∉ s.appendPlace low) →
        (total ≤ len.toNat → (∀ j : Nat, j < data.length → s.Plain (p + done + BitVec.ofNat 32 j) ∧
            (p + done + BitVec.ofNat 32 j) &&& 0xFFFFFFFC#32 ∉ length ++ s.appendPlace low) →
          ∃ t : State, ends t ((List.range data.length).map fun j => p + done + BitVec.ofNat 32 j) ∧
            (∀ (j : Nat) (b : Byte), data[j]? = some b → t.byteAt (p + done + BitVec.ofNat 32 j) = b) ∧
            (∀ a ∈ length, t.wordAt a = BitVec.ofNat 32 total)) ∧
        (len.toNat < total → (∀ j : Nat, j < len.toNat → s.Plain (p + BitVec.ofNat 32 j) ∧
            (p + BitVec.ofNat 32 j) &&& 0xFFFFFFFC#32 ∉ length ++ s.appendPlace low) →
          ∃ t : State, ends t ((List.range len.toNat).map fun j => p + BitVec.ofNat 32 j) ∧
            (∀ a ∈ length, t.wordAt a = 0xFFFFFFFF#32)))) ∧
    (∀ (d p len done : Word) (sent : Bool) (m : Nat), s.agenda = [.vcpServe k] → v.held = some (m, true) →
      v.inp.state = .comm d p len false done sent → v.inp.active = true → v.buffer ≠ Config.nullBuffer → m ≤ 32 →
      done.toNat + m ≤ len.toNat →
      let low := d.getLsbD 0
      let x := d &&& 0xFFFFFFFC#32
      let src (j : Nat) : Word := v.buffer + BitVec.ofNat 32 j
      let dst (j : Nat) : Word := p + done + BitVec.ofNat 32 j
      s.CanAppend low → (∀ j : Nat, j < m → s.Plain (src j) ∧ s.Plain (dst j) ∧
        (dst j) &&& 0xFFFFFFFC#32 ∉ s.appendPlace low) →
      ∃ t : State, step s = .next t ∧ Appended s t low x ∧ (∀ j : Nat, j < m → t.byteAt (dst j) = s.byteAt (src j)) ∧
        (∀ a : Word, (∀ j : Nat, j < m → a ≠ dst j) → a &&& 0xFFFFFFFC#32 ∉ s.appendPlace low →
          t.byteAt a = s.byteAt a) ∧
        t.vlcb k = { v with held := none, inp := { v.inp with state := .empty } } ∧
        OnlySched { s with
          agenda := []
          vcp := { s.vcp with
            vlcbs := t.vcp.vlcbs
            links := s.vcp.links.set n (if low then { q with loAck := q.loAck ++ [k] }
              else { q with hiAck := q.hiAck ++ [k] }) } } t)) ∧
  (s.vcp.mode = .running → l.vcpMode.getLsbD 0 = true →
    let outWord : Word := 0x80000000#32 + BitVec.ofNat 32 (4 * n)
    let inWord : Word := 0x80000010#32 + BitVec.ofNat 32 (4 * n)
    let becomes (u : State) (x : LinkQueues) : Prop := step s = .next { u with
      agenda := [], vcp := { s.vcp with links := s.vcp.links.set n x } }
    (l.started = true → l.resetOutputDone = false →
      (∀ b : ByteComm, s.agenda = [.byteSend n] → q.byteOut = some b → b.sent = false → b.done ≠ b.len →
        let m := Nat.min 32 (b.len.toNat - b.done.toNat)
        let done := b.done + BitVec.ofNat 32 m
        (∀ j : Nat, j < m → s.legal false false (b.ptr + b.done + BitVec.ofNat 32 j) = true) →
        ∃ u : State, ReadMisses s u ∧ becomes u { q with
          byteOut := some { b with done := done, sent := true }
          sent := q.sent ++ [{
            header := [0#8]
            data := (List.range m).map fun j => s.byteAt (b.ptr + b.done + BitVec.ofNat 32 j)
            last := done == b.len }] }) ∧
      (s.agenda = [.byteReply n] →
        (∀ a : Nat, q.byteAcks = a + 1 → becomes s { q with byteAcks := a, sent := q.sent ++ [⟨[0#8], [], false⟩] }) ∧
        (∀ b : ByteComm, q.byteAcks = 0 → q.byteIn = some b → b.sent = false → ∃ bs : List Byte, 1 ≤ bs.length ∧
          bs.length ≤ 4 ∧ (∀ j : Nat, j < 4 → bs.getD j 0#8 = b.len.extractLsb' (8 * j) 8) ∧
          becomes s { q with byteIn := some { b with sent := true }, sent := q.sent ++ [⟨[1#8], bs, true⟩] }))) ∧
    (s.agenda = [.vcpAccept n] →
      (∀ (b : ByteComm) (a : Packet) (before left : List Packet), q.byteOut = some b → a.data = [] → a.last = false →
        (before = [] ∧ q.arrived = a :: left) ∨
          (∃ (o : Packet) (x y : List Packet), before = o :: x ∧ q.arrived = before ++ a :: y ∧ left = before ++ y ∧
            (∀ z ∈ before, z.data ≠ [] ∨ z.last = true) ∧ q.byteIn = none ∧ s.wordAt inWord = 0x80000000#32 ∧
            s.Backed inWord) →
        let low := b.wdesc.getLsbD 0
        let x := b.wdesc &&& 0xFFFFFFFC#32
        let gone := if b.wdesc ∈ s.temps then [x] else []
        (b.done ≠ b.len → ∃ u : State, ReadMisses s u ∧
          becomes u { q with arrived := left, byteOut := some { b with sent := false } }) ∧
        (b.done = b.len → s.CanAppend low → s.Backed outWord → outWord ∉ gone ++ s.appendPlace low →
          (∀ w ∈ gone, s.Plain w ∧ w ∉ s.appendPlace low) → ∃ t : State, step s = .next t ∧ Appended s t low x ∧
          t.wordAt outWord = 0x80000000#32 ∧ SameBut s t ([outWord] ++ gone ++ s.appendPlace low) ∧
          OnlySched { (s.setTemp b.wdesc false) with
            agenda := [], vcp := { s.vcp with links := s.vcp.links.set n { q with arrived := left, byteOut := none } } } t)) ∧
      (∀ (a : Packet) (rest : List Packet), q.arrived = a :: rest → a.data ≠ [] ∨ a.last = true →
        (q.byteIn = none →
          let d := s.wordAt inWord
          let low := d.getLsbD 0
          let state := (d &&& 0xFFFFFFFC#32) - 16#32
          d ≠ 0x80000000#32 → s.Backed inWord → s.Plain state →
          (s.wordAt state = 0x80000001#32 → ∃ t : State, step s = .next t ∧ t.wordAt state = 0x80000003#32 ∧
            t.hi = s.hi ∧ t.lo = s.lo ∧ SameBut s t [state] ∧ OnlySched { s with agenda := [] } t) ∧
          (s.wordAt state = 0x80000002#32 → s.CanAppend low → state ∉ s.appendPlace low → ∃ t : State,
            step s = .next t ∧ t.wordAt state = 0x80000003#32 ∧ Appended s t low (d &&& 0xFFFFFFFC#32) ∧
            SameBut s t ([state] ++ s.appendPlace low) ∧ OnlySched { s with agenda := [] } t)) ∧
        (∀ b : ByteComm, q.byteIn = some b →
          let low := b.wdesc.getLsbD 0
          let total := b.done.toNat + a.data.length
          let dst (j : Nat) : Word := b.ptr + b.done + BitVec.ofNat 32 j
          let stored (t : State) : Prop := step s = .next t ∧ ∀ (j : Nat) (v : Byte), a.data[j]? = some v → t.byteAt (dst j) = v
          (a.data = [] → becomes s { q with arrived := rest }) ∧
          (a.data ≠ [] → total ≤ b.len.toNat →
            (∀ j : Nat, j < a.data.length → s.Plain (dst j) ∧ dst j &&& 0xFFFFFFFC#32 ≠ inWord ∧
              dst j &&& 0xFFFFFFFC#32 ∉ s.appendPlace low) →
            (a.last = false → total < b.len.toNat → ∃ t : State, stored t ∧ t.hi = s.hi ∧ t.lo = s.lo ∧
              (∀ y : Word, (∀ j : Nat, j < a.data.length → y ≠ dst j) → t.byteAt y = s.byteAt y) ∧
              OnlySched { s with
                agenda := []
                vcp := { s.vcp with
                  links := s.vcp.links.set n { q with
                    arrived := rest, byteAcks := q.byteAcks + 1
                    byteIn := some { b with done := BitVec.ofNat 32 total } } } } t) ∧
            (a.last = true ∨ total = b.len.toNat → s.CanAppend low → s.Backed inWord → inWord ∉ s.appendPlace low →
              ∃ t : State, stored t ∧ Appended s t low (b.wdesc &&& 0xFFFFFFFC#32) ∧ t.wordAt inWord = 0x80000000#32 ∧
                (∀ y : Word, (∀ j : Nat, j < a.data.length → y ≠ dst j) →
                  y &&& 0xFFFFFFFC#32 ∉ [inWord] ++ s.appendPlace low → t.byteAt y = s.byteAt y) ∧
                OnlySched { s with
                  agenda := []
                  vcp := { s.vcp with
                    links := s.vcp.links.set n { q with arrived := rest, byteAcks := q.byteAcks + 1, byteIn := none } } } t)))))) ∧
  (∀ parity : Bool, s.agenda = [.linkError n parity] → l.started = true → parity = true ∨ l.tokenReceived = true →
    l.mode.getLsbD 3 = true → step s = .next { s with
      agenda := []
      links := s.links.set n { l with
        started := false, tokenReceived := false, linkError := true, parityError := parity, discError := !parity }
      vcp := { s.vcp with links := s.vcp.links.set n { q with arrived := [], sent := [] } } }) ∧
  (let mode : VcpMode := if s.vcp.mode = .resetting then .resetting else .discarding
   let halts (code : Byte) (conf : Conf) (links : Quad Link) (x : LinkQueues) : Prop := ∃ t : State, step s = .next t ∧
     t = { s with
       agenda := [], oreg := 0#32, links := links, draws := t.draws
       conf := { conf with reason := Config.reasonHalted, errorSinceReset := true, errorCode := code }
       vcp := { s.vcp with mode := mode, links := s.vcp.links.set n x }, ctl := { t.ctl with gross := .error } }
   s.conf.standAloneMode = false →
   (∀ parity : Bool, s.agenda = [.linkError n parity] → l.started = true → parity = true ∨ l.tokenReceived = true →
     l.mode.getLsbD 3 = false →
     halts (0x80#8 + BitVec.ofNat 8 n) s.conf (s.links.set n { l with
       started := false, tokenReceived := false, linkError := true, parityError := parity, discError := !parity })
       { q with arrived := [], sent := [] }) ∧
   (∀ (h : Byte) (data : List Byte) (last : Bool) (rest : List Packet), s.agenda = [.vcpAccept n] →
     s.vcp.mode = .running → l.vcpMode.getLsbD 0 = false → l.vcpMode.getLsbD 2 = false →
     q.arrived = ⟨[h], data, last⟩ :: rest → h.toNat < l.minHeader.toNat ∨ l.maxHeader.toNat < h.toNat →
     let conf := { s.conf with
       vcpStatus := if s.conf.vcpStatusSet then s.conf.vcpStatus
         else 1#32 ||| (BitVec.ofNat 32 n <<< 4) ||| (h.setWidth 32 <<< 16)
       vcpStatusSet := true }
     (l.vcpMode.getLsbD 1 = true → step s = .next { s with
       agenda := [], conf := conf, vcp := { s.vcp with links := s.vcp.links.set n { q with arrived := rest } } }) ∧
     (l.vcpMode.getLsbD 1 = false → halts 0x02#8 conf s.links { q with arrived := rest })))

/-- The control unit (47 R690 to R698): a command of this device becomes the command in progress and is acknowledged, and is
then executed and handshaken behind the return header: Start, Identify, Peek, Poke, CPeek, CPoke, Boot, BootData (here while a
whole packet is to come), Stop, RecoverError, Reset (70 R778), Run and Reboot (70 R780, R786); one that the gross state does
not admit with a failure status. A CPoke is one of MemStart, of DoPMIConfigured, of CLink1Command or of an address that cannot
be written, where that a register that is only read fails is the model's choice (log 54); no lock applies to it (10 R73). An
ErrorHandshake is executed at once. The error type that a Stop leaves is any value (log 31). That the acknowledge goes out
before, and the handshake with, the execution is the model's choice (log 54), that a token that starts CLink0 ends a
ResetOutput log 34, and what a Reset clears is read from 70 R778 as log 35 says; after levels 1 and 2 the VCP is in its
resetting mode (R643). After Run and Reboot StatusReg #00000080 and ThReg NotProcess.p are the decision D57 (log 1, log 7);
that interrupts are enabled then is read from R37 (b) of 10_state.md, where the boolean is true initially (log 35). -/
def Obligations.ControlCommands : Prop := ∀ (s : State) (h rh : Half), s.inChain = false → s.cache.waiting = false →
  s.trouble = none → s.mem.wf = true → s.ctl.label = some h → s.ctl.returnHeader = some rh →
  (∀ c : Command, s.agenda = [.command h c] → s.ctl.inProgress = none → c ≠ .errorHandshake →
    step s = .next { s with
      agenda := [], clink0 := { s.clink0 with
        started := true, tokenReceived := true, resetOutputDone := s.clink0.resetOutputDone && s.clink0.started }
      ctl := { s.ctl with inProgress := some c, up := s.ctl.up ++ [(rh, .acknowledge)] } }) ∧
  (∀ c : Command, s.agenda = [.handshake] → s.ctl.inProgress = some c →
    let replied (ctl : Control) (valid : Bool) (data : Option Word) : Control := { ctl with
      inProgress := none, up := ctl.up ++ [(rh, .handshake c valid data)], unacked := ctl.unacked + 1 }
    let answers (valid : Bool) (data : Option Word) (u : State) : Prop :=
      step s = .next { u with agenda := [], ctl := replied u.ctl valid data }
    (c.validIn s.ctl.gross = false → answers false none s) ∧
    (∀ x : Half, c = .start x → step s = .next { s with
      agenda := []
      ctl := { s.ctl with
        returnHeader := some x, gross := if s.ctl.gross = .initial then .ready else s.ctl.gross, inProgress := none
        up := s.ctl.up ++ [(x, .handshake c true none)], unacked := s.ctl.unacked + 1 } }) ∧
    (c = .recoverError → s.ctl.gross ≠ .initial → answers true none { s with
      ctl := { s.ctl with errorSent := none, ignored := s.ctl.ignored + s.ctl.unacked, unacked := 0 } }) ∧
    (∀ l : Byte, c = .reset l → s.ctl.gross ≠ .initial →
      (l ∉ [1#8, 2#8, 3#8] → answers false none s) ∧
      (l = 3#8 → ∃ t : State, step s = .next t ∧ t = { s with
        agenda := [], oreg := 0#32, inChain := false, intEnabled := true, ws := t.ws, prefetch := [], draws := t.draws
        r := { s.r with
          areg := t.r.areg, breg := t.r.breg, creg := t.r.creg, fpA := t.r.fpA, fpB := t.r.fpB, fpC := t.r.fpC
          round := t.r.round }
        ctl := replied { s.ctl with gross := .ready, errorSent := none, bootRemaining := 0#32 } true none }) ∧
      (l = 1#8 ∨ l = 2#8 → ∃ t : State, step s = .next t ∧ t.r.wdesc = 0x80000000#32 ∧ t.hi.fptr = 0x80000000#32 ∧
        t.lo.fptr = 0x80000000#32 ∧ t.shadowValid = false ∧ t.clockRunning = false ∧ t.conf.errorCode = 0#8 ∧
        t.conf.chanWriteLock = false ∧ t.conf.pmiWriteLock = false ∧ t.conf.sysServWriteLock = false ∧
        (∀ x ∈ [t.links.q0, t.links.q1, t.links.q2, t.links.q3, t.clink0, t.clink1],
          x.writeLock = false ∧ x.linkError = false ∧ x.parityError = false ∧ x.discError = false) ∧
        t.clink0.started = s.clink0.started ∧ t.clink1.started = s.clink1.started ∧ t.vcp.mode = .resetting ∧
        t.ctl = replied { s.ctl with gross := .ready, errors := [], errorSent := none, bootRemaining := 0#32 } true none ∧
        (l = 1#8 → t.conf.errorSinceReset = false ∧ t.conf.pmiConfigured = false ∧ t.conf.bootRemapped = false ∧
          ∀ n : Nat, (t.links.get n).started = false) ∧
        (l = 2#8 → t.mem = s.mem ∧ t.cache = s.cache ∧ t.clink0.mode = s.clink0.mode ∧
          t.clink1.mode = s.clink1.mode ∧
          (∀ n : Nat, (t.links.get n).mode = (s.links.get n).mode ∧ (t.links.get n).started = (s.links.get n).started) ∧
          t.conf = { s.conf with
            chanWriteLock := false, pmiWriteLock := false, sysServWriteLock := false, errorCode := 0#8
            vcpStatus := t.conf.vcpStatus, vcpStatusSet := t.conf.vcpStatusSet }))) ∧
    (c = .identify → s.ctl.gross ≠ .initial → answers true (some Config.deviceId) s) ∧
    (s.ctl.gross = .ready ∨ s.ctl.gross = .booting →
      (∀ a : Word, c = .peek a → a &&& 3#32 = 0#32 →
        (s.legal false false a = true → answers true (some (s.wordAt a)) (s.readMiss a)) ∧
        (s.legal false false a = false → answers false none s)) ∧
      (∀ a v : Word, c = .poke a v → a &&& 3#32 = 0#32 →
        (s.Plain a → ∃ t : State, step s = .next t ∧ t.wordAt a = v ∧ SameBut s t [a] ∧
          OnlySched { s with agenda := [], ctl := replied s.ctl true none } t) ∧
        (s.legal false true a = false → answers false none s)) ∧
      (∀ (a : Half) (w m : Word), c = .cpeek a → s.confRead (a.setWidth 32) = some (w, m) →
        ∃ (u : Word) (d : Nat), u &&& m = w &&& m ∧ answers true (some u) { s with draws := d }) ∧
      (∀ (a : Half) (v : Word), c = .cpoke a v →
        (a = 0x410E#16 → answers true none { s with conf := { s.conf with memStart := v &&& 0xFFFFFFFC#32 } }) ∧
        (a = 0x0212#16 → answers true none { s with conf := { s.conf with pmiConfigured := true, activeBanks := s.conf.banks } }) ∧
        (a = 0xFE02#16 → v = 2#32 → s.clink1.startBit = false → answers true none { s with
          clink1 := { s.clink1 with started := true, resetOutputDone := false, startBit := true } }) ∧
        (a >>> 8 ∉ [0x01#16, 0x02#16, 0x04#16, 0x06#16, 0x08#16, 0x09#16, 0x10#16, 0x20#16, 0x41#16, 0x49#16, 0x80#16, 0x81#16,
            0x82#16, 0x83#16, 0xFD#16, 0xFE#16] ∨
          a ∈ [0x010E#16, 0x0213#16, 0x1001#16, 0x1002#16, 0x1004#16, 0x8003#16, 0x8103#16, 0x8203#16, 0x8303#16, 0xFD03#16,
            0xFE03#16] → answers false none s))) ∧
    (∀ n a : Word, c = .boot n a → a &&& 3#32 = 0#32 → s.ctl.gross = .ready →
      answers true none { s with ctl := { s.ctl with bootPtr := a, bootRemaining := n, gross := .booting } }) ∧
    (∀ d0 d1 d2 d3 : Word, c = .bootData d0 d1 d2 d3 → s.ctl.gross = .booting → 16 ≤ s.ctl.bootRemaining.toNat →
      s.ctl.bootPtr &&& 3#32 = 0#32 →
      let p := s.ctl.bootPtr
      let left := s.ctl.bootRemaining - 16#32
      (∀ j : Nat, j < 4 → s.Plain (p + BitVec.ofNat 32 (4 * j))) → ∃ t : State, step s = .next t ∧
        t.wordAt p = d0 ∧ t.wordAt (p + 4#32) = d1 ∧ t.wordAt (p + 8#32) = d2 ∧ t.wordAt (p + 12#32) = d3 ∧
        SameOutside s t p 16 ∧ OnlyStore { s with
          agenda := []
          ctl := replied { s.ctl with
            bootPtr := p + 16#32, bootRemaining := left, gross := if left = 0#32 then .ready else .booting } true none } t ∧
        t.r = s.r) ∧
    (c = .stop → s.ctl.gross = .running → s.vcp.mode = .running → ∃ (et : Word) (d : Nat), answers true none { s with
      ctl := { s.ctl with gross := .stopping, haltError := et }, conf := { s.conf with reason := Config.reasonStopped }
      vcp := { s.vcp with mode := .stopping }, draws := d }) ∧
    (let starts (w i : Word) : Prop :=
      let a := w &&& 0xFFFFFFFC#32
      (∀ j : Nat, j < 7 → s.Plain (a + BitVec.ofNat 32 (4 * j))) → ∃ t : State, step s = .next t ∧
        t.r.wdesc = a ∧ t.r.iptr = i ∧ t.r.status = 0x80#32 ∧ t.r.th = 0x80000000#32 ∧ t.intEnabled = true ∧
        t.wordAt a = s.r.wdesc ∧ t.wordAt (a + 4#32) = s.r.iptr ∧ t.wordAt (a + 12#32) = s.r.th ∧
        t.wordAt (a + 16#32) = s.conf.reason ∧ t.wordAt (a + 20#32) = s.ctl.haltError ∧
        t.wordAt (a + 24#32) = s.r.eptr ∧ SameOutside s t a 28 ∧ t.hi = s.hi ∧ t.lo = s.lo ∧
        t.conf.initialWptr = a ∧ t.conf.initialIptr = i ∧ t.ctl = replied { s.ctl with gross := .running } true none
     (∀ w i : Word, c = .run w i → s.ctl.gross = .ready → starts w i) ∧
     (c = .reboot → s.ctl.gross = .ready ∨ s.ctl.gross = .booting → s.legal false false 0x7FFFFFF8#32 = true →
      s.legal false false 0x7FFFFFFC#32 = true → starts (s.wordAt 0x7FFFFFFC#32) (s.wordAt 0x7FFFFFF8#32)))) ∧
  (∀ e : Byte, s.agenda = [.command h .errorHandshake] → s.ctl.errorSent = some e → s.ctl.unacked ≠ 0 →
    step s = .next { s with
      agenda := [], clink0 := { s.clink0 with
        started := true, tokenReceived := true, resetOutputDone := s.clink0.resetOutputDone && s.clink0.started }
      ctl := { s.ctl with
        up := s.ctl.up ++ [(rh, .acknowledge)], errors := s.ctl.errors.filter (· != e), errorSent := none } })

/-- Registers of the configuration space read by `ldconf` and written by `stconf` (R670, R671; 10_state.md R60 to R73):
the significant bits, in a state whose subsystem is not locked; a bit that is not significant reads as any value (that it is
kept as zero is log 60). What the PMI does changes only with DoPMIConfigured (R63). The link commands StartLink and ResetLink
(R70; when ResetOutputComplete is cleared is log 34) and the VCP's Start and Stop (47 R643). That the mode and status
registers of the control links have the fields of the data links' is the decision D21 of R71 (log 1). That `ldconf` of the
action addresses #0212 and #0416 delivers any value, as R60 and 93_implementation_defined.md have it, and not the
IntegerError of the table of R672, is the model's choice (log 60). -/
def Obligations.ConfigurationRegisters : Prop := ∀ s : State, s.plain →
  let v := s.r.breg
  let reads (a w mask : Word) : Prop := s.r.areg = a → ∃ (u : Word) (n : Nat), u &&& mask = w &&& mask ∧
    exec .ldconf s = .next { s with r := { s.r with areg := u }, draws := n }
  let puts (a : Word) (t : State) : Prop := s.r.areg = a → s.confLocked a = false →
    ∃ (x y : Word) (n : Nat), exec .stconf s =
      .next { t with r := { s.r with areg := s.r.creg, breg := x, creg := y }, draws := n }
  let writes (a : Word) (c : Conf) : Prop := puts a { s with conf := c }
  let word := v &&& 0xFFFFFFFC#32
  let flag (b : Bool) (w : Word) : Word := if b then w else 0#32
  let status (l : Link) : Word := flag l.linkError 1#32 ||| flag l.started 2#32 ||| flag l.resetOutputDone 4#32 |||
    flag l.parityError 8#32 ||| flag l.discError 16#32 ||| flag l.tokenReceived 32#32
  reads 0x010F#32 s.conf.minInvalidChannel 0xFFFFFFFC#32 ∧ writes 0x010F#32 { s.conf with minInvalidChannel := word } ∧
  reads 0x0111#32 s.conf.initialIptr 0xFFFFFFFF#32 ∧ writes 0x0111#32 { s.conf with initialIptr := v } ∧
  reads 0x0112#32 s.conf.initialWptr 0xFFFFFFFC#32 ∧ writes 0x0112#32 { s.conf with initialWptr := word } ∧
  reads 0x0113#32 s.conf.reason 0xFFFFFFFF#32 ∧ writes 0x0113#32 { s.conf with reason := v } ∧
  reads 0x0115#32 s.conf.emiBadAddress 0xFFFFFFFF#32 ∧ writes 0x0115#32 { s.conf with emiBadAddress := v } ∧
  (∀ k : Nat, k < 4 →
    let b := s.conf.banks.get k
    let l := s.links.get k
    let at' (x : Nat) : Word := BitVec.ofNat 32 x
    let bank (x : Bank) : Conf := { s.conf with banks := s.conf.banks.set k x }
    let link (x : Link) : State := { s with links := s.links.set k x }
    reads (at' (0x202 + 3 * k)) b.address 0xFFFFFFFC#32 ∧ writes (at' (0x202 + 3 * k)) (bank { b with address := word }) ∧
    reads (at' (0x203 + 3 * k)) b.mask 0xFFFFFFFC#32 ∧ writes (at' (0x203 + 3 * k)) (bank { b with mask := word }) ∧
    reads (at' (0x204 + 3 * k)) b.formatControl 0xF000001C#32 ∧
    writes (at' (0x204 + 3 * k)) (bank { b with formatControl := v &&& 0xF000001C#32 }) ∧
    reads (at' (0x20E + k)) b.rasBits 0xFFFFFFFC#32 ∧ writes (at' (0x20E + k)) (bank { b with rasBits := word }) ∧
    reads (at' (0x401 + k)) b.rasStrobe 0xFFFC0000#32 ∧
    writes (at' (0x401 + k)) (bank { b with rasStrobe := v &&& 0xFFFC0000#32 }) ∧
    reads (at' (0x405 + k)) b.casStrobe 0xFFFC0000#32 ∧
    writes (at' (0x405 + k)) (bank { b with casStrobe := v &&& 0xFFFC0000#32 }) ∧
    reads (at' (0x409 + k)) b.progStrobe 0xFFFC0000#32 ∧
    writes (at' (0x409 + k)) (bank { b with progStrobe := v &&& 0xFFFC0000#32 }) ∧
    reads (at' (0x40D + k)) b.writeStrobe 0xFFFC0000#32 ∧
    writes (at' (0x40D + k)) (bank { b with writeStrobe := v &&& 0xFFFC0000#32 }) ∧
    reads (at' (0x411 + k)) b.timingControl 0xFFFFFE00#32 ∧
    writes (at' (0x411 + k)) (bank { b with timingControl := v &&& 0xFFFFFE00#32 }) ∧
    reads (at' (0x805 + 4 * k)) (l.vcpMode.setWidth 32) 7#32 ∧ reads (at' (0x806 + 4 * k)) (l.maxHeader.setWidth 32) 0xFFFF#32 ∧
    reads (at' (0x807 + 4 * k)) (l.minHeader.setWidth 32) 0xFFFF#32 ∧
    reads (at' (0x808 + 4 * k)) (l.hdrOffset.setWidth 32) 0xFFFF#32 ∧
    (s.vcp.mode ≠ .resetting → s.vcp.mode ≠ .running →
      puts (at' (0x805 + 4 * k)) (link { l with vcpMode := v.setWidth 3 }) ∧
      puts (at' (0x806 + 4 * k)) (link { l with maxHeader := v.setWidth 16 }) ∧
      puts (at' (0x807 + 4 * k)) (link { l with minHeader := v.setWidth 16 }) ∧
      puts (at' (0x808 + 4 * k)) (link { l with hdrOffset := v.setWidth 16 })) ∧
    reads (at' (0x8001 + 256 * k)) (l.mode.setWidth 32) 0x1F#32 ∧
    (l.started = false → puts (at' (0x8001 + 256 * k)) (link { l with mode := v.setWidth 5 })) ∧
    reads (at' (0x8003 + 256 * k)) (status l) 0x3F#32 ∧
    reads (at' (0x8004 + 256 * k)) (flag l.writeLock 1#32) 1#32 ∧
    puts (at' (0x8004 + 256 * k)) (link { l with writeLock := v.getLsbD 0 }) ∧
    (v = 2#32 → l.startBit = false →
      puts (at' (0x8002 + 256 * k)) (link { l with started := true, resetOutputDone := false, startBit := true })) ∧
    (v = 1#32 → puts (at' (0x8002 + 256 * k)) { s with
      links := s.links.set k { l with
        linkError := false, started := false, parityError := false, discError := false, tokenReceived := false
        startBit := false }
      vcp := { s.vcp with links := s.vcp.links.set k { (s.vcp.links.get k) with arrived := [], sent := [] } } })) ∧
  (∀ z ∈ [(s.clink0, 0xFD00#32), (s.clink1, 0xFE00#32)], reads (z.2 + 1#32) (z.1.mode.setWidth 32) 0x1F#32 ∧
    reads (z.2 + 3#32) (status z.1) 0x3F#32 ∧ reads (z.2 + 4#32) (flag z.1.writeLock 1#32) 1#32) ∧
  reads 0x0212#32 0#32 0#32 ∧ reads 0x0416#32 0#32 0#32 ∧
  writes 0x0212#32 { s.conf with pmiConfigured := true, activeBanks := s.conf.banks } ∧
  reads 0x0213#32 s.conf.pmiErrorAddress 0xFFFFFFFC#32 ∧
  reads 0x0415#32 s.conf.refreshControl 0xFFFFFF80#32 ∧
  writes 0x0415#32 { s.conf with refreshControl := v &&& 0xFFFFFF80#32 } ∧
  writes 0x0416#32 { s.conf with bootRemapped := true } ∧
  reads 0x0600#32 (flag s.conf.pmiWriteLock 1#32) 1#32 ∧ writes 0x0600#32 { s.conf with pmiWriteLock := v.getLsbD 0 } ∧
  reads 0x0802#32 s.conf.vcpStatus 0xFFFF0037#32 ∧
  writes 0x0802#32 { s.conf with vcpStatus := 0#32, vcpStatusSet := false } ∧
  (v = 2#32 → s.vcp.mode = .waiting → s.vcp.stopSignalled = false →
    puts 0x0804#32 { s with vcp := { s.vcp with mode := .running } }) ∧
  (v = 4#32 → s.vcp.mode = .running → puts 0x0804#32 { s with vcp := { s.vcp with mode := .stopping } }) ∧
  reads 0x0901#32 s.conf.hdrAreaBase 0xFFFFFFFC#32 ∧ writes 0x0901#32 { s.conf with hdrAreaBase := word } ∧
  reads 0x1001#32 Config.deviceId 0xFFFF#32 ∧
  reads 0x1003#32 (flag s.conf.errorSinceReset 1#32 ||| flag s.conf.standAloneMode 2#32) 3#32 ∧
  writes 0x1003#32 { s.conf with errorSinceReset := false, standAloneMode := v.getLsbD 1 } ∧
  reads 0x1004#32 (s.conf.errorCode.setWidth 32) 0xFF#32 ∧
  reads 0x1005#32 (s.conf.speedMultiply.setWidth 32) 0x3F#32 ∧
  writes 0x1005#32 { s.conf with speedMultiply := v.setWidth 6 } ∧
  reads 0x1006#32 (flag s.conf.sysServWriteLock 1#32) 1#32 ∧
  writes 0x1006#32 { s.conf with sysServWriteLock := v.getLsbD 0 } ∧
  reads 0x2001#32 (s.conf.ramSize.setWidth 32) 3#32 ∧ writes 0x2001#32 { s.conf with ramSize := v.setWidth 2 } ∧
  reads 0x2003#32 (s.conf.ramLineNumber.setWidth 32) 0xFF#32 ∧
  writes 0x2003#32 { s.conf with ramLineNumber := v.setWidth 8 } ∧
  reads 0x2004#32 s.conf.ramAddress 0xFFFFFFF0#32 ∧ writes 0x2004#32 { s.conf with ramAddress := v &&& 0xFFFFFFF0#32 } ∧
  reads 0x410E#32 s.conf.memStart 0xFFFFFFFC#32 ∧ writes 0x410E#32 { s.conf with memStart := word } ∧
  reads 0x4110#32 s.conf.externalRCBase 0xFFFFFFFC#32 ∧ writes 0x4110#32 { s.conf with externalRCBase := word } ∧
  reads 0x4900#32 (flag s.conf.chanWriteLock 1#32) 1#32 ∧ writes 0x4900#32 { s.conf with chanWriteLock := v.getLsbD 0 }

/-- The cache instructions (R680 to R683). A flush changes nothing that an on-chip agent reads: the dirty words of the lines
it names go to external memory, as far as that can keep them (D3), and the lines are clean. An invalidation takes the lines
it names away, and gives back what external memory holds of their blocks; a locked line stays (log 66). Here no block is in
two lines (`StepKeepsTheCacheLines`). By which number `fdcl` and `icl` know a line is the model's choice (log 11); that its
address is compared as signed is the decision D56 of R681, log 1. -/
def Obligations.CacheInstructions : Prop := ∀ (s : State) (p : Word), s.calm → s.mem.wf = true → s.LinesApart →
  let place (l : CacheLine) (j : Nat) : Word := BitVec.ofNat 32 (16 * l.block + 4 * j)
  let flushes (i : Instr) (next : Word) (named : CacheLine → Bool) : Prop := ∃ t : State, exec i s = .next t ∧
    t = { s with r := { s.r with areg := next }, cache := { s.cache with lines := t.cache.lines } } ∧
    t.cache.lines.length = s.cache.lines.length ∧
    (∀ (j : Nat) (l u : CacheLine), s.cache.lines[j]? = some l → t.cache.lines[j]? = some u →
      (named l = false → u = l) ∧
      (named l = true → u.row = l.row ∧ u.block = l.block ∧ ∀ y : Nat, y < 4 → u.dirty.get y = false ∧
        u.ext.get y = if l.dirty.get y && s.keeps (place l y) then s.wordAt (place l y) else l.ext.get y))
  let invalidates (i : Instr) (next : Word) (named : CacheLine → Bool) : Prop :=
    let gone (l : CacheLine) : Bool := named l && !s.cache.locked.any fun x => x.2 == l.block
    ∃ t : State, exec i s = .next t ∧
    t = { s with
      r := { s.r with areg := next }, mem := t.mem, ws := t.ws, prefetch := t.prefetch
      cache := { s.cache with lines := s.cache.lines.filter fun l => !gone l } } ∧
    (∀ l ∈ s.cache.lines, gone l = true → ∀ y : Nat, y < 4 → t.wordAt (place l y) = l.ext.get y) ∧
    (∀ b : Word, (∀ l ∈ s.cache.lines, gone l = true → b.toNat / 16 ≠ l.block) → t.byteAt b = s.byteAt b)
  (s.r.translate false .write s.r.areg = .ok p →
    flushes .fdca (s.r.areg + 16#32) (fun l => l.block == p.toNat / 16) ∧
    invalidates .ica (s.r.areg + 16#32) fun l => l.block == p.toNat / 16) ∧
  (s.r.isP = false → s.r.areg.toNat < 1024 → s.cache.ramSize ≠ 1#2 ∨ 512 ≤ s.r.areg.toNat →
    let named (l : CacheLine) : Bool := l.number == some s.r.areg.toNat && s.r.breg.sle (place l 0) && (place l 0).sle s.r.creg
    flushes .fdcl (s.r.areg + 1#32) named ∧ invalidates .icl (s.r.areg + 1#32) named)
end

