-- ==== Sys2Proof/Laws/Memory.lean ====
section
/-! SUPPORT. Laws/Memory: a read after a write, and that every memory operation keeps the canonical form. -/

namespace Sys2Proof.Machine

/-! ## Reading after writing -/

theorem Memory.read_cellFor_append (m : Memory) (a b : Nat) (v : Byte) (h : b ≠ a) :
    Memory.read (cellFor a v ++ m) b = m.read b := by
  unfold cellFor
  split
  · rfl
  · have h' : a ≠ b := fun e => h e.symm
    simp [Memory.read, h']

/-- Writing one byte leaves every other byte. -/
theorem Memory.read_write_other (m : Memory) (a b : Nat) (v : Byte) (h : b ≠ a) :
    (m.write a v).read b = m.read b := by
  induction m with
  | nil => simpa [Memory.write] using Memory.read_cellFor_append [] a b v h
  | cons c rest ih =>
    obtain ⟨k, w⟩ := c
    simp only [Memory.write]
    split
    · exact Memory.read_cellFor_append _ a b v h
    · split
      · rename_i _ e
        rw [Memory.read_cellFor_append _ a b v h]
        have h' : k ≠ b := fun x => h (x.symm.trans e.symm)
        simp [Memory.read, h']
      · simp only [Memory.read]
        split
        · rfl
        · exact ih

/-- Below its first address a canonical memory lists nothing. -/
theorem Memory.read_below (m : Memory) (lo a : Nat) (h : Memory.wfFrom lo m = true) (ha : a < lo) :
    m.read a = unlistedByte := by
  induction m generalizing lo with
  | nil => rfl
  | cons c rest ih =>
    obtain ⟨k, w⟩ := c
    simp only [Memory.wfFrom, Bool.and_eq_true, decide_eq_true_eq] at h
    obtain ⟨⟨⟨h1, _⟩, _⟩, h4⟩ := h
    have : k ≠ a := by omega
    simp only [Memory.read, this, if_false]
    exact ih (k + 1) h4 (by omega)

theorem Memory.read_cellFor_same (m : Memory) (a lo : Nat) (v : Byte) (h : Memory.wfFrom lo m = true)
    (ha : a < lo) : Memory.read (cellFor a v ++ m) a = v := by
  unfold cellFor
  split
  · rename_i e
    simpa [e] using Memory.read_below m lo a h ha
  · simp [Memory.read]

theorem Memory.read_write_from (m : Memory) (lo a : Nat) (v : Byte) (h : Memory.wfFrom lo m = true) :
    (m.write a v).read a = v := by
  induction m generalizing lo with
  | nil =>
    have t := Memory.read_cellFor_same [] a (a + 1) v rfl (by omega)
    rwa [List.append_nil] at t
  | cons c rest ih =>
    obtain ⟨k, w⟩ := c
    simp only [Memory.write]
    split
    · rename_i hk
      exact Memory.read_cellFor_same _ a (a + 1) v
        (by
          simp only [Memory.wfFrom, Bool.and_eq_true, decide_eq_true_eq] at h ⊢
          exact ⟨⟨⟨by omega, h.1.1.2⟩, h.1.2⟩, h.2⟩) (by omega)
    · simp only [Memory.wfFrom, Bool.and_eq_true, decide_eq_true_eq] at h
      split
      · exact Memory.read_cellFor_same rest a (k + 1) v h.2 (by omega)
      · rename_i _ e
        have : k ≠ a := fun x => e x.symm
        simp only [Memory.read, this, if_false]
        exact ih (k + 1) h.2

/-- Reading a byte just written gives the value written. -/
theorem Memory.read_write_same (m : Memory) (a : Nat) (v : Byte) (h : m.wf = true) : (m.write a v).read a = v :=
  Memory.read_write_from m 0 a v h

/-- Reading after writing one byte. -/
theorem Memory.read_write (m : Memory) (a b : Nat) (v : Byte) (h : m.wf = true) :
    (m.write a v).read b = if b = a then v else m.read b := by
  split
  · rename_i e
    rw [e]
    exact Memory.read_write_same m a v h
  · rename_i e
    exact Memory.read_write_other m a b v e

/-! ## The canonical form -/

theorem Memory.wfFrom_weaken (m : Memory) (lo lo' : Nat) (h : Memory.wfFrom lo m = true) (hl : lo' ≤ lo) :
    Memory.wfFrom lo' m = true := by
  cases m with
  | nil => rfl
  | cons c rest =>
    obtain ⟨k, w⟩ := c
    simp only [Memory.wfFrom, Bool.and_eq_true, decide_eq_true_eq] at h ⊢
    exact ⟨⟨⟨by omega, h.1.1.2⟩, h.1.2⟩, h.2⟩

theorem Memory.wfFrom_cellFor (m : Memory) (a lo : Nat) (v : Byte) (h : Memory.wfFrom (a + 1) m = true)
    (ha : lo ≤ a) (hb : a < 2 ^ 32) : Memory.wfFrom lo (cellFor a v ++ m) = true := by
  unfold cellFor
  split
  · exact Memory.wfFrom_weaken m (a + 1) lo h (by omega)
  · rename_i e
    simp only [List.singleton_append, Memory.wfFrom, Bool.and_eq_true, decide_eq_true_eq, bne_iff_ne, ne_eq]
    exact ⟨⟨⟨ha, hb⟩, e⟩, h⟩

theorem Memory.wfFrom_write (m : Memory) (lo a : Nat) (v : Byte) (h : Memory.wfFrom lo m = true) (ha : lo ≤ a)
    (hb : a < 2 ^ 32) : Memory.wfFrom lo (m.write a v) = true := by
  induction m generalizing lo with
  | nil => simpa [Memory.write] using Memory.wfFrom_cellFor [] a lo v rfl ha hb
  | cons c rest ih =>
    obtain ⟨k, w⟩ := c
    simp only [Memory.write]
    simp only [Memory.wfFrom, Bool.and_eq_true, decide_eq_true_eq] at h
    split
    · rename_i hk
      refine Memory.wfFrom_cellFor _ a lo v ?_ ha hb
      simp only [Memory.wfFrom, Bool.and_eq_true, decide_eq_true_eq]
      exact ⟨⟨⟨by omega, h.1.1.2⟩, h.1.2⟩, h.2⟩
    · split
      · rename_i _ e
        exact Memory.wfFrom_cellFor rest a lo v (by rw [e]; exact h.2) ha hb
      · simp only [Memory.wfFrom, Bool.and_eq_true, decide_eq_true_eq]
        exact ⟨⟨⟨h.1.1.1, h.1.1.2⟩, h.1.2⟩, ih (k + 1) h.2 (by omega)⟩

/-- A byte written keeps the canonical form. -/
theorem Memory.wf_write (m : Memory) (a : Nat) (v : Byte) (h : m.wf = true) (ha : a < 2 ^ 32) :
    (m.write a v).wf = true := Memory.wfFrom_write m 0 a v h (Nat.zero_le a) ha

/-- A byte written at a machine address keeps the canonical form. -/
theorem Memory.wf_writeAt (m : Memory) (a : Word) (v : Byte) (h : m.wf = true) :
    (m.write a.toNat v).wf = true := Memory.wf_write m a.toNat v h a.isLt

@[simp] theorem Memory.wf_writeWord (m : Memory) (a v : Word) (h : m.wf = true) : (m.writeWord a v).wf = true :=
  Memory.wf_writeAt _ (a + 3) _ (Memory.wf_writeAt _ (a + 2) _ (Memory.wf_writeAt _ (a + 1) _ (Memory.wf_writeAt m a _ h)))

@[simp] theorem Memory.wf_writeHalf (m : Memory) (a : Word) (v : Half) (h : m.wf = true) :
    (m.writeHalf a v).wf = true := Memory.wf_writeAt _ (a + 1) _ (Memory.wf_writeAt m a _ h)

@[simp] theorem Memory.wf_writeBytes (m : Memory) (a : Word) (bs : List Byte) (h : m.wf = true) :
    (m.writeBytes a bs).wf = true := by
  induction bs generalizing m a with
  | nil => exact h
  | cons b bs ih => exact ih _ _ (Memory.wf_writeAt m a b h)

@[simp] theorem Memory.wf_fill (m : Memory) (a : Word) (f : Nat → Byte) (n : Nat) (h : m.wf = true) :
    (m.fill a f n).wf = true := by
  induction n with
  | zero => exact h
  | succ n ih => exact Memory.wf_writeAt _ _ _ ih

@[simp] theorem Memory.wf_revertLines (ls : List CacheLine) (m : Memory) (h : m.wf = true) :
    (revertLines m ls).wf = true := by
  induction ls generalizing m with
  | nil => exact h
  | cons l ls ih =>
    exact ih _ (Memory.wf_writeWord _ _ _ (Memory.wf_writeWord _ _ _ (Memory.wf_writeWord _ _ _ (Memory.wf_writeWord m _ _ h))))

/-! ## Words -/

theorem toNat_ne_of_ne {a b : Word} (h : a ≠ b) : a.toNat ≠ b.toNat := fun e => h (BitVec.eq_of_toNat_eq e)

/-- Writing a word leaves every byte outside it. -/
theorem Memory.read_writeWord_other (m : Memory) (a b v : Word)
    (h : b ≠ a ∧ b ≠ a + 1 ∧ b ≠ a + 2 ∧ b ≠ a + 3) : (m.writeWord a v).read b.toNat = m.read b.toNat := by
  obtain ⟨h0, h1, h2, h3⟩ := h
  simp only [Memory.writeWord]
  rw [Memory.read_write_other _ _ _ _ (toNat_ne_of_ne h3), Memory.read_write_other _ _ _ _ (toNat_ne_of_ne h2),
    Memory.read_write_other _ _ _ _ (toNat_ne_of_ne h1), Memory.read_write_other _ _ _ _ (toNat_ne_of_ne h0)]

/-- The bytes of a word, put together again. -/
theorem byteOf_append (v : Word) : byteOf v 3 ++ byteOf v 2 ++ byteOf v 1 ++ byteOf v 0 = v := by
  apply BitVec.eq_of_getLsbD_eq
  intro i hi
  simp only [byteOf, BitVec.getLsbD_append, BitVec.getLsbD_setWidth, BitVec.getLsbD_ushiftRight]
  by_cases h0 : i < 8
  · simp [h0]
  · by_cases h1 : i < 16
    · have : i - 8 < 8 := by omega
      have e : 8 + (i - 8) = i := by omega
      simp [h0, this, e]
    · by_cases h2 : i < 24
      · have a1 : ¬ i - 8 < 8 := by omega
        have a2 : i - 8 - 8 < 8 := by omega
        have e : 16 + (i - 8 - 8) = i := by omega
        simp [h0, a1, a2, e]
      · have a1 : ¬ i - 8 < 8 := by omega
        have a2 : ¬ i - 8 - 8 < 8 := by omega
        have a3 : i - 8 - 8 - 8 < 8 := by omega
        have e : 24 + (i - 8 - 8 - 8) = i := by omega
        simp [h0, a1, a2, a3, e]

theorem step_ne (a : Word) : a ≠ a + 1 ∧ a ≠ a + 2 ∧ a ≠ a + 3 ∧ a + 1 ≠ a + 2 ∧ a + 1 ≠ a + 3 ∧ a + 2 ≠ a + 3 := by
  refine ⟨?_, ?_, ?_, ?_, ?_, ?_⟩ <;> intro h <;> bv_omega

/-- Reading a word just written gives the value written. -/
theorem Memory.word_writeWord (m : Memory) (a v : Word) (h : m.wf = true) : (m.writeWord a v).word a = v := by
  obtain ⟨h01, h02, h03, h12, h13, h23⟩ := step_ne a
  have w1 := Memory.wf_writeAt m a (byteOf v 0) h
  have w2 := Memory.wf_writeAt _ (a + 1) (byteOf v 1) w1
  have w3 := Memory.wf_writeAt _ (a + 2) (byteOf v 2) w2
  simp only [Memory.word, Memory.writeWord]
  rw [Memory.read_write_same _ _ _ w3,
    Memory.read_write_other _ _ _ _ (toNat_ne_of_ne h23), Memory.read_write_same _ _ _ w2,
    Memory.read_write_other _ _ _ _ (toNat_ne_of_ne h13), Memory.read_write_other _ _ _ _ (toNat_ne_of_ne h12),
    Memory.read_write_same _ _ _ w1,
    Memory.read_write_other _ _ _ _ (toNat_ne_of_ne h03), Memory.read_write_other _ _ _ _ (toNat_ne_of_ne h02),
    Memory.read_write_other _ _ _ _ (toNat_ne_of_ne h01), Memory.read_write_same _ _ _ h]
  exact byteOf_append v

/-- A word depends on its four bytes only. -/
theorem Memory.word_congr {m n : Memory} {a : Word} (h0 : m.read a.toNat = n.read a.toNat)
    (h1 : m.read (a + 1).toNat = n.read (a + 1).toNat) (h2 : m.read (a + 2).toNat = n.read (a + 2).toNat)
    (h3 : m.read (a + 3).toNat = n.read (a + 3).toNat) : m.word a = n.word a := by
  simp only [Memory.word, h0, h1, h2, h3]

/-- An aligned address is a multiple of four. -/
theorem aligned_mod (a : Word) (h : a &&& 3#32 = 0#32) : a.toNat % 4 = 0 := by
  have t := congrArg BitVec.toNat h
  rw [BitVec.toNat_and, show (3#32 : Word).toNat = 2 ^ 2 - 1 from rfl, Nat.and_two_pow_sub_one_eq_mod] at t
  simpa using t

/-- Different aligned words share no byte. -/
theorem aligned_apart (a b i j : Word) (ha : a &&& 3#32 = 0#32) (hb : b &&& 3#32 = 0#32) (h : b ≠ a)
    (hi : i.toNat < 4) (hj : j.toNat < 4) : b + i ≠ a + j := by
  intro e
  have ha' := aligned_mod a ha
  have hb' := aligned_mod b hb
  apply h
  apply BitVec.eq_of_toNat_eq
  have t := congrArg BitVec.toNat e
  rw [BitVec.toNat_add, BitVec.toNat_add] at t
  have la := a.isLt
  have lb := b.isLt
  omega

/-- Writing an aligned word leaves every other aligned word. -/
theorem Memory.word_writeWord_other (m : Memory) (a b v : Word) (ha : a &&& 3#32 = 0#32) (hb : b &&& 3#32 = 0#32)
    (h : b ≠ a) : (m.writeWord a v).word b = m.word b := by
  have key : ∀ i : Word, i.toNat < 4 → (m.writeWord a v).read (b + i).toNat = m.read (b + i).toNat := by
    intro i hi
    refine Memory.read_writeWord_other m a (b + i) v ⟨?_, ?_, ?_, ?_⟩
    · simpa using aligned_apart a b i 0#32 ha hb h hi (by decide)
    · exact aligned_apart a b i 1#32 ha hb h hi (by decide)
    · exact aligned_apart a b i 2#32 ha hb h hi (by decide)
    · exact aligned_apart a b i 3#32 ha hb h hi (by decide)
  exact Memory.word_congr (by simpa using key 0#32 (by decide)) (key 1#32 (by decide)) (key 2#32 (by decide))
    (key 3#32 (by decide))

end Sys2Proof.Machine
end

