-- ==== Sys2Proof/Laws/State.lean ====
section
/-! SUPPORT. Laws/State: what each update of the operand forms (Machine/Operands.lean) leaves in each field, so
that no later proof unfolds one. -/

namespace Sys2Proof.Machine

@[simp] theorem State.push_r (s : State) (v : Word) : (s.push v).r = { s.r with areg := v, breg := s.r.areg, creg := s.r.breg } := rfl
@[simp] theorem State.push_sh (s : State) (v : Word) : (s.push v).sh = s.sh := rfl
@[simp] theorem State.push_shadowValid (s : State) (v : Word) : (s.push v).shadowValid = s.shadowValid := rfl
@[simp] theorem State.push_oreg (s : State) (v : Word) : (s.push v).oreg = s.oreg := rfl
@[simp] theorem State.push_inChain (s : State) (v : Word) : (s.push v).inChain = s.inChain := rfl
@[simp] theorem State.push_hi (s : State) (v : Word) : (s.push v).hi = s.hi := rfl
@[simp] theorem State.push_lo (s : State) (v : Word) : (s.push v).lo = s.lo := rfl
@[simp] theorem State.push_clockRunning (s : State) (v : Word) : (s.push v).clockRunning = s.clockRunning := rfl
@[simp] theorem State.push_tickPhase (s : State) (v : Word) : (s.push v).tickPhase = s.tickPhase := rfl
@[simp] theorem State.push_tsCount (s : State) (v : Word) : (s.push v).tsCount = s.tsCount := rfl
@[simp] theorem State.push_intEnabled (s : State) (v : Word) : (s.push v).intEnabled = s.intEnabled := rfl
@[simp] theorem State.push_mem (s : State) (v : Word) : (s.push v).mem = s.mem := rfl
@[simp] theorem State.push_cache (s : State) (v : Word) : (s.push v).cache = s.cache := rfl
@[simp] theorem State.push_ws (s : State) (v : Word) : (s.push v).ws = s.ws := rfl
@[simp] theorem State.push_prefetch (s : State) (v : Word) : (s.push v).prefetch = s.prefetch := rfl
@[simp] theorem State.push_conf (s : State) (v : Word) : (s.push v).conf = s.conf := rfl
@[simp] theorem State.push_links (s : State) (v : Word) : (s.push v).links = s.links := rfl
@[simp] theorem State.push_clink0 (s : State) (v : Word) : (s.push v).clink0 = s.clink0 := rfl
@[simp] theorem State.push_clink1 (s : State) (v : Word) : (s.push v).clink1 = s.clink1 := rfl
@[simp] theorem State.push_vcp (s : State) (v : Word) : (s.push v).vcp = s.vcp := rfl
@[simp] theorem State.push_events (s : State) (v : Word) : (s.push v).events = s.events := rfl
@[simp] theorem State.push_ctl (s : State) (v : Word) : (s.push v).ctl = s.ctl := rfl
@[simp] theorem State.push_agenda (s : State) (v : Word) : (s.push v).agenda = s.agenda := rfl
@[simp] theorem State.push_cpuMode (s : State) (v : Word) : (s.push v).cpuMode = s.cpuMode := rfl
@[simp] theorem State.push_resuming (s : State) (v : Word) : (s.push v).resuming = s.resuming := rfl
@[simp] theorem State.push_descheduled (s : State) (v : Word) : (s.push v).descheduled = s.descheduled := rfl
@[simp] theorem State.push_rcTails (s : State) (v : Word) : (s.push v).rcTails = s.rcTails := rfl
@[simp] theorem State.push_temps (s : State) (v : Word) : (s.push v).temps = s.temps := rfl
@[simp] theorem State.push_trouble (s : State) (v : Word) : (s.push v).trouble = s.trouble := rfl
@[simp] theorem State.push_draws (s : State) (v : Word) : (s.push v).draws = s.draws := rfl

@[simp] theorem State.pop1_r (s : State) : s.pop1.r = { s.r with areg := s.r.breg, breg := s.r.creg, creg := s.drawn 0 } := rfl
@[simp] theorem State.pop1_sh (s : State) : s.pop1.sh = s.sh := rfl
@[simp] theorem State.pop1_shadowValid (s : State) : s.pop1.shadowValid = s.shadowValid := rfl
@[simp] theorem State.pop1_oreg (s : State) : s.pop1.oreg = s.oreg := rfl
@[simp] theorem State.pop1_inChain (s : State) : s.pop1.inChain = s.inChain := rfl
@[simp] theorem State.pop1_hi (s : State) : s.pop1.hi = s.hi := rfl
@[simp] theorem State.pop1_lo (s : State) : s.pop1.lo = s.lo := rfl
@[simp] theorem State.pop1_clockRunning (s : State) : s.pop1.clockRunning = s.clockRunning := rfl
@[simp] theorem State.pop1_tickPhase (s : State) : s.pop1.tickPhase = s.tickPhase := rfl
@[simp] theorem State.pop1_tsCount (s : State) : s.pop1.tsCount = s.tsCount := rfl
@[simp] theorem State.pop1_intEnabled (s : State) : s.pop1.intEnabled = s.intEnabled := rfl
@[simp] theorem State.pop1_mem (s : State) : s.pop1.mem = s.mem := rfl
@[simp] theorem State.pop1_cache (s : State) : s.pop1.cache = s.cache := rfl
@[simp] theorem State.pop1_ws (s : State) : s.pop1.ws = s.ws := rfl
@[simp] theorem State.pop1_prefetch (s : State) : s.pop1.prefetch = s.prefetch := rfl
@[simp] theorem State.pop1_conf (s : State) : s.pop1.conf = s.conf := rfl
@[simp] theorem State.pop1_links (s : State) : s.pop1.links = s.links := rfl
@[simp] theorem State.pop1_clink0 (s : State) : s.pop1.clink0 = s.clink0 := rfl
@[simp] theorem State.pop1_clink1 (s : State) : s.pop1.clink1 = s.clink1 := rfl
@[simp] theorem State.pop1_vcp (s : State) : s.pop1.vcp = s.vcp := rfl
@[simp] theorem State.pop1_events (s : State) : s.pop1.events = s.events := rfl
@[simp] theorem State.pop1_ctl (s : State) : s.pop1.ctl = s.ctl := rfl
@[simp] theorem State.pop1_agenda (s : State) : s.pop1.agenda = s.agenda := rfl
@[simp] theorem State.pop1_cpuMode (s : State) : s.pop1.cpuMode = s.cpuMode := rfl
@[simp] theorem State.pop1_resuming (s : State) : s.pop1.resuming = s.resuming := rfl
@[simp] theorem State.pop1_descheduled (s : State) : s.pop1.descheduled = s.descheduled := rfl
@[simp] theorem State.pop1_rcTails (s : State) : s.pop1.rcTails = s.rcTails := rfl
@[simp] theorem State.pop1_temps (s : State) : s.pop1.temps = s.temps := rfl
@[simp] theorem State.pop1_trouble (s : State) : s.pop1.trouble = s.trouble := rfl
@[simp] theorem State.pop1_draws (s : State) : s.pop1.draws = s.draws + 1 := rfl

@[simp] theorem State.pop2_r (s : State) : s.pop2.r = { s.r with areg := s.r.creg, breg := s.drawn 0, creg := s.drawn 1 } := rfl
@[simp] theorem State.pop2_sh (s : State) : s.pop2.sh = s.sh := rfl
@[simp] theorem State.pop2_shadowValid (s : State) : s.pop2.shadowValid = s.shadowValid := rfl
@[simp] theorem State.pop2_oreg (s : State) : s.pop2.oreg = s.oreg := rfl
@[simp] theorem State.pop2_inChain (s : State) : s.pop2.inChain = s.inChain := rfl
@[simp] theorem State.pop2_hi (s : State) : s.pop2.hi = s.hi := rfl
@[simp] theorem State.pop2_lo (s : State) : s.pop2.lo = s.lo := rfl
@[simp] theorem State.pop2_clockRunning (s : State) : s.pop2.clockRunning = s.clockRunning := rfl
@[simp] theorem State.pop2_tickPhase (s : State) : s.pop2.tickPhase = s.tickPhase := rfl
@[simp] theorem State.pop2_tsCount (s : State) : s.pop2.tsCount = s.tsCount := rfl
@[simp] theorem State.pop2_intEnabled (s : State) : s.pop2.intEnabled = s.intEnabled := rfl
@[simp] theorem State.pop2_mem (s : State) : s.pop2.mem = s.mem := rfl
@[simp] theorem State.pop2_cache (s : State) : s.pop2.cache = s.cache := rfl
@[simp] theorem State.pop2_ws (s : State) : s.pop2.ws = s.ws := rfl
@[simp] theorem State.pop2_prefetch (s : State) : s.pop2.prefetch = s.prefetch := rfl
@[simp] theorem State.pop2_conf (s : State) : s.pop2.conf = s.conf := rfl
@[simp] theorem State.pop2_links (s : State) : s.pop2.links = s.links := rfl
@[simp] theorem State.pop2_clink0 (s : State) : s.pop2.clink0 = s.clink0 := rfl
@[simp] theorem State.pop2_clink1 (s : State) : s.pop2.clink1 = s.clink1 := rfl
@[simp] theorem State.pop2_vcp (s : State) : s.pop2.vcp = s.vcp := rfl
@[simp] theorem State.pop2_events (s : State) : s.pop2.events = s.events := rfl
@[simp] theorem State.pop2_ctl (s : State) : s.pop2.ctl = s.ctl := rfl
@[simp] theorem State.pop2_agenda (s : State) : s.pop2.agenda = s.agenda := rfl
@[simp] theorem State.pop2_cpuMode (s : State) : s.pop2.cpuMode = s.cpuMode := rfl
@[simp] theorem State.pop2_resuming (s : State) : s.pop2.resuming = s.resuming := rfl
@[simp] theorem State.pop2_descheduled (s : State) : s.pop2.descheduled = s.descheduled := rfl
@[simp] theorem State.pop2_rcTails (s : State) : s.pop2.rcTails = s.rcTails := rfl
@[simp] theorem State.pop2_temps (s : State) : s.pop2.temps = s.temps := rfl
@[simp] theorem State.pop2_trouble (s : State) : s.pop2.trouble = s.trouble := rfl
@[simp] theorem State.pop2_draws (s : State) : s.pop2.draws = s.draws + 2 := rfl

@[simp] theorem State.setA_r (s : State) (v : Word) : (s.setA v).r = { s.r with areg := v } := rfl
@[simp] theorem State.setA_sh (s : State) (v : Word) : (s.setA v).sh = s.sh := rfl
@[simp] theorem State.setA_shadowValid (s : State) (v : Word) : (s.setA v).shadowValid = s.shadowValid := rfl
@[simp] theorem State.setA_oreg (s : State) (v : Word) : (s.setA v).oreg = s.oreg := rfl
@[simp] theorem State.setA_inChain (s : State) (v : Word) : (s.setA v).inChain = s.inChain := rfl
@[simp] theorem State.setA_hi (s : State) (v : Word) : (s.setA v).hi = s.hi := rfl
@[simp] theorem State.setA_lo (s : State) (v : Word) : (s.setA v).lo = s.lo := rfl
@[simp] theorem State.setA_clockRunning (s : State) (v : Word) : (s.setA v).clockRunning = s.clockRunning := rfl
@[simp] theorem State.setA_tickPhase (s : State) (v : Word) : (s.setA v).tickPhase = s.tickPhase := rfl
@[simp] theorem State.setA_tsCount (s : State) (v : Word) : (s.setA v).tsCount = s.tsCount := rfl
@[simp] theorem State.setA_intEnabled (s : State) (v : Word) : (s.setA v).intEnabled = s.intEnabled := rfl
@[simp] theorem State.setA_mem (s : State) (v : Word) : (s.setA v).mem = s.mem := rfl
@[simp] theorem State.setA_cache (s : State) (v : Word) : (s.setA v).cache = s.cache := rfl
@[simp] theorem State.setA_ws (s : State) (v : Word) : (s.setA v).ws = s.ws := rfl
@[simp] theorem State.setA_prefetch (s : State) (v : Word) : (s.setA v).prefetch = s.prefetch := rfl
@[simp] theorem State.setA_conf (s : State) (v : Word) : (s.setA v).conf = s.conf := rfl
@[simp] theorem State.setA_links (s : State) (v : Word) : (s.setA v).links = s.links := rfl
@[simp] theorem State.setA_clink0 (s : State) (v : Word) : (s.setA v).clink0 = s.clink0 := rfl
@[simp] theorem State.setA_clink1 (s : State) (v : Word) : (s.setA v).clink1 = s.clink1 := rfl
@[simp] theorem State.setA_vcp (s : State) (v : Word) : (s.setA v).vcp = s.vcp := rfl
@[simp] theorem State.setA_events (s : State) (v : Word) : (s.setA v).events = s.events := rfl
@[simp] theorem State.setA_ctl (s : State) (v : Word) : (s.setA v).ctl = s.ctl := rfl
@[simp] theorem State.setA_agenda (s : State) (v : Word) : (s.setA v).agenda = s.agenda := rfl
@[simp] theorem State.setA_cpuMode (s : State) (v : Word) : (s.setA v).cpuMode = s.cpuMode := rfl
@[simp] theorem State.setA_resuming (s : State) (v : Word) : (s.setA v).resuming = s.resuming := rfl
@[simp] theorem State.setA_descheduled (s : State) (v : Word) : (s.setA v).descheduled = s.descheduled := rfl
@[simp] theorem State.setA_rcTails (s : State) (v : Word) : (s.setA v).rcTails = s.rcTails := rfl
@[simp] theorem State.setA_temps (s : State) (v : Word) : (s.setA v).temps = s.temps := rfl
@[simp] theorem State.setA_trouble (s : State) (v : Word) : (s.setA v).trouble = s.trouble := rfl
@[simp] theorem State.setA_draws (s : State) (v : Word) : (s.setA v).draws = s.draws := rfl

@[simp] theorem State.dyadic_r (s : State) (v : Word) : (s.dyadic v).r = { s.r with areg := v, breg := s.r.creg, creg := s.drawn 0 } := rfl
@[simp] theorem State.dyadic_sh (s : State) (v : Word) : (s.dyadic v).sh = s.sh := rfl
@[simp] theorem State.dyadic_shadowValid (s : State) (v : Word) : (s.dyadic v).shadowValid = s.shadowValid := rfl
@[simp] theorem State.dyadic_oreg (s : State) (v : Word) : (s.dyadic v).oreg = s.oreg := rfl
@[simp] theorem State.dyadic_inChain (s : State) (v : Word) : (s.dyadic v).inChain = s.inChain := rfl
@[simp] theorem State.dyadic_hi (s : State) (v : Word) : (s.dyadic v).hi = s.hi := rfl
@[simp] theorem State.dyadic_lo (s : State) (v : Word) : (s.dyadic v).lo = s.lo := rfl
@[simp] theorem State.dyadic_clockRunning (s : State) (v : Word) : (s.dyadic v).clockRunning = s.clockRunning := rfl
@[simp] theorem State.dyadic_tickPhase (s : State) (v : Word) : (s.dyadic v).tickPhase = s.tickPhase := rfl
@[simp] theorem State.dyadic_tsCount (s : State) (v : Word) : (s.dyadic v).tsCount = s.tsCount := rfl
@[simp] theorem State.dyadic_intEnabled (s : State) (v : Word) : (s.dyadic v).intEnabled = s.intEnabled := rfl
@[simp] theorem State.dyadic_mem (s : State) (v : Word) : (s.dyadic v).mem = s.mem := rfl
@[simp] theorem State.dyadic_cache (s : State) (v : Word) : (s.dyadic v).cache = s.cache := rfl
@[simp] theorem State.dyadic_ws (s : State) (v : Word) : (s.dyadic v).ws = s.ws := rfl
@[simp] theorem State.dyadic_prefetch (s : State) (v : Word) : (s.dyadic v).prefetch = s.prefetch := rfl
@[simp] theorem State.dyadic_conf (s : State) (v : Word) : (s.dyadic v).conf = s.conf := rfl
@[simp] theorem State.dyadic_links (s : State) (v : Word) : (s.dyadic v).links = s.links := rfl
@[simp] theorem State.dyadic_clink0 (s : State) (v : Word) : (s.dyadic v).clink0 = s.clink0 := rfl
@[simp] theorem State.dyadic_clink1 (s : State) (v : Word) : (s.dyadic v).clink1 = s.clink1 := rfl
@[simp] theorem State.dyadic_vcp (s : State) (v : Word) : (s.dyadic v).vcp = s.vcp := rfl
@[simp] theorem State.dyadic_events (s : State) (v : Word) : (s.dyadic v).events = s.events := rfl
@[simp] theorem State.dyadic_ctl (s : State) (v : Word) : (s.dyadic v).ctl = s.ctl := rfl
@[simp] theorem State.dyadic_agenda (s : State) (v : Word) : (s.dyadic v).agenda = s.agenda := rfl
@[simp] theorem State.dyadic_cpuMode (s : State) (v : Word) : (s.dyadic v).cpuMode = s.cpuMode := rfl
@[simp] theorem State.dyadic_resuming (s : State) (v : Word) : (s.dyadic v).resuming = s.resuming := rfl
@[simp] theorem State.dyadic_descheduled (s : State) (v : Word) : (s.dyadic v).descheduled = s.descheduled := rfl
@[simp] theorem State.dyadic_rcTails (s : State) (v : Word) : (s.dyadic v).rcTails = s.rcTails := rfl
@[simp] theorem State.dyadic_temps (s : State) (v : Word) : (s.dyadic v).temps = s.temps := rfl
@[simp] theorem State.dyadic_trouble (s : State) (v : Word) : (s.dyadic v).trouble = s.trouble := rfl
@[simp] theorem State.dyadic_draws (s : State) (v : Word) : (s.dyadic v).draws = s.draws + 1 := rfl

@[simp] theorem State.twoResults_r (s : State) (a b : Word) : (s.twoResults a b).r = { s.r with areg := a, breg := b, creg := s.drawn 0 } := rfl
@[simp] theorem State.twoResults_sh (s : State) (a b : Word) : (s.twoResults a b).sh = s.sh := rfl
@[simp] theorem State.twoResults_shadowValid (s : State) (a b : Word) : (s.twoResults a b).shadowValid = s.shadowValid := rfl
@[simp] theorem State.twoResults_oreg (s : State) (a b : Word) : (s.twoResults a b).oreg = s.oreg := rfl
@[simp] theorem State.twoResults_inChain (s : State) (a b : Word) : (s.twoResults a b).inChain = s.inChain := rfl
@[simp] theorem State.twoResults_hi (s : State) (a b : Word) : (s.twoResults a b).hi = s.hi := rfl
@[simp] theorem State.twoResults_lo (s : State) (a b : Word) : (s.twoResults a b).lo = s.lo := rfl
@[simp] theorem State.twoResults_clockRunning (s : State) (a b : Word) : (s.twoResults a b).clockRunning = s.clockRunning := rfl
@[simp] theorem State.twoResults_tickPhase (s : State) (a b : Word) : (s.twoResults a b).tickPhase = s.tickPhase := rfl
@[simp] theorem State.twoResults_tsCount (s : State) (a b : Word) : (s.twoResults a b).tsCount = s.tsCount := rfl
@[simp] theorem State.twoResults_intEnabled (s : State) (a b : Word) : (s.twoResults a b).intEnabled = s.intEnabled := rfl
@[simp] theorem State.twoResults_mem (s : State) (a b : Word) : (s.twoResults a b).mem = s.mem := rfl
@[simp] theorem State.twoResults_cache (s : State) (a b : Word) : (s.twoResults a b).cache = s.cache := rfl
@[simp] theorem State.twoResults_ws (s : State) (a b : Word) : (s.twoResults a b).ws = s.ws := rfl
@[simp] theorem State.twoResults_prefetch (s : State) (a b : Word) : (s.twoResults a b).prefetch = s.prefetch := rfl
@[simp] theorem State.twoResults_conf (s : State) (a b : Word) : (s.twoResults a b).conf = s.conf := rfl
@[simp] theorem State.twoResults_links (s : State) (a b : Word) : (s.twoResults a b).links = s.links := rfl
@[simp] theorem State.twoResults_clink0 (s : State) (a b : Word) : (s.twoResults a b).clink0 = s.clink0 := rfl
@[simp] theorem State.twoResults_clink1 (s : State) (a b : Word) : (s.twoResults a b).clink1 = s.clink1 := rfl
@[simp] theorem State.twoResults_vcp (s : State) (a b : Word) : (s.twoResults a b).vcp = s.vcp := rfl
@[simp] theorem State.twoResults_events (s : State) (a b : Word) : (s.twoResults a b).events = s.events := rfl
@[simp] theorem State.twoResults_ctl (s : State) (a b : Word) : (s.twoResults a b).ctl = s.ctl := rfl
@[simp] theorem State.twoResults_agenda (s : State) (a b : Word) : (s.twoResults a b).agenda = s.agenda := rfl
@[simp] theorem State.twoResults_cpuMode (s : State) (a b : Word) : (s.twoResults a b).cpuMode = s.cpuMode := rfl
@[simp] theorem State.twoResults_resuming (s : State) (a b : Word) : (s.twoResults a b).resuming = s.resuming := rfl
@[simp] theorem State.twoResults_descheduled (s : State) (a b : Word) : (s.twoResults a b).descheduled = s.descheduled := rfl
@[simp] theorem State.twoResults_rcTails (s : State) (a b : Word) : (s.twoResults a b).rcTails = s.rcTails := rfl
@[simp] theorem State.twoResults_temps (s : State) (a b : Word) : (s.twoResults a b).temps = s.temps := rfl
@[simp] theorem State.twoResults_trouble (s : State) (a b : Word) : (s.twoResults a b).trouble = s.trouble := rfl
@[simp] theorem State.twoResults_draws (s : State) (a b : Word) : (s.twoResults a b).draws = s.draws + 1 := rfl

@[simp] theorem State.oneResult_r (s : State) (a : Word) : (s.oneResult a).r = { s.r with areg := a, breg := s.drawn 0, creg := s.drawn 1 } := rfl
@[simp] theorem State.oneResult_sh (s : State) (a : Word) : (s.oneResult a).sh = s.sh := rfl
@[simp] theorem State.oneResult_shadowValid (s : State) (a : Word) : (s.oneResult a).shadowValid = s.shadowValid := rfl
@[simp] theorem State.oneResult_oreg (s : State) (a : Word) : (s.oneResult a).oreg = s.oreg := rfl
@[simp] theorem State.oneResult_inChain (s : State) (a : Word) : (s.oneResult a).inChain = s.inChain := rfl
@[simp] theorem State.oneResult_hi (s : State) (a : Word) : (s.oneResult a).hi = s.hi := rfl
@[simp] theorem State.oneResult_lo (s : State) (a : Word) : (s.oneResult a).lo = s.lo := rfl
@[simp] theorem State.oneResult_clockRunning (s : State) (a : Word) : (s.oneResult a).clockRunning = s.clockRunning := rfl
@[simp] theorem State.oneResult_tickPhase (s : State) (a : Word) : (s.oneResult a).tickPhase = s.tickPhase := rfl
@[simp] theorem State.oneResult_tsCount (s : State) (a : Word) : (s.oneResult a).tsCount = s.tsCount := rfl
@[simp] theorem State.oneResult_intEnabled (s : State) (a : Word) : (s.oneResult a).intEnabled = s.intEnabled := rfl
@[simp] theorem State.oneResult_mem (s : State) (a : Word) : (s.oneResult a).mem = s.mem := rfl
@[simp] theorem State.oneResult_cache (s : State) (a : Word) : (s.oneResult a).cache = s.cache := rfl
@[simp] theorem State.oneResult_ws (s : State) (a : Word) : (s.oneResult a).ws = s.ws := rfl
@[simp] theorem State.oneResult_prefetch (s : State) (a : Word) : (s.oneResult a).prefetch = s.prefetch := rfl
@[simp] theorem State.oneResult_conf (s : State) (a : Word) : (s.oneResult a).conf = s.conf := rfl
@[simp] theorem State.oneResult_links (s : State) (a : Word) : (s.oneResult a).links = s.links := rfl
@[simp] theorem State.oneResult_clink0 (s : State) (a : Word) : (s.oneResult a).clink0 = s.clink0 := rfl
@[simp] theorem State.oneResult_clink1 (s : State) (a : Word) : (s.oneResult a).clink1 = s.clink1 := rfl
@[simp] theorem State.oneResult_vcp (s : State) (a : Word) : (s.oneResult a).vcp = s.vcp := rfl
@[simp] theorem State.oneResult_events (s : State) (a : Word) : (s.oneResult a).events = s.events := rfl
@[simp] theorem State.oneResult_ctl (s : State) (a : Word) : (s.oneResult a).ctl = s.ctl := rfl
@[simp] theorem State.oneResult_agenda (s : State) (a : Word) : (s.oneResult a).agenda = s.agenda := rfl
@[simp] theorem State.oneResult_cpuMode (s : State) (a : Word) : (s.oneResult a).cpuMode = s.cpuMode := rfl
@[simp] theorem State.oneResult_resuming (s : State) (a : Word) : (s.oneResult a).resuming = s.resuming := rfl
@[simp] theorem State.oneResult_descheduled (s : State) (a : Word) : (s.oneResult a).descheduled = s.descheduled := rfl
@[simp] theorem State.oneResult_rcTails (s : State) (a : Word) : (s.oneResult a).rcTails = s.rcTails := rfl
@[simp] theorem State.oneResult_temps (s : State) (a : Word) : (s.oneResult a).temps = s.temps := rfl
@[simp] theorem State.oneResult_trouble (s : State) (a : Word) : (s.oneResult a).trouble = s.trouble := rfl
@[simp] theorem State.oneResult_draws (s : State) (a : Word) : (s.oneResult a).draws = s.draws + 2 := rfl

@[simp] theorem State.setAB_r (s : State) (a b : Word) : (s.setAB a b).r = { s.r with areg := a, breg := b } := rfl
@[simp] theorem State.setAB_sh (s : State) (a b : Word) : (s.setAB a b).sh = s.sh := rfl
@[simp] theorem State.setAB_shadowValid (s : State) (a b : Word) : (s.setAB a b).shadowValid = s.shadowValid := rfl
@[simp] theorem State.setAB_oreg (s : State) (a b : Word) : (s.setAB a b).oreg = s.oreg := rfl
@[simp] theorem State.setAB_inChain (s : State) (a b : Word) : (s.setAB a b).inChain = s.inChain := rfl
@[simp] theorem State.setAB_hi (s : State) (a b : Word) : (s.setAB a b).hi = s.hi := rfl
@[simp] theorem State.setAB_lo (s : State) (a b : Word) : (s.setAB a b).lo = s.lo := rfl
@[simp] theorem State.setAB_clockRunning (s : State) (a b : Word) : (s.setAB a b).clockRunning = s.clockRunning := rfl
@[simp] theorem State.setAB_tickPhase (s : State) (a b : Word) : (s.setAB a b).tickPhase = s.tickPhase := rfl
@[simp] theorem State.setAB_tsCount (s : State) (a b : Word) : (s.setAB a b).tsCount = s.tsCount := rfl
@[simp] theorem State.setAB_intEnabled (s : State) (a b : Word) : (s.setAB a b).intEnabled = s.intEnabled := rfl
@[simp] theorem State.setAB_mem (s : State) (a b : Word) : (s.setAB a b).mem = s.mem := rfl
@[simp] theorem State.setAB_cache (s : State) (a b : Word) : (s.setAB a b).cache = s.cache := rfl
@[simp] theorem State.setAB_ws (s : State) (a b : Word) : (s.setAB a b).ws = s.ws := rfl
@[simp] theorem State.setAB_prefetch (s : State) (a b : Word) : (s.setAB a b).prefetch = s.prefetch := rfl
@[simp] theorem State.setAB_conf (s : State) (a b : Word) : (s.setAB a b).conf = s.conf := rfl
@[simp] theorem State.setAB_links (s : State) (a b : Word) : (s.setAB a b).links = s.links := rfl
@[simp] theorem State.setAB_clink0 (s : State) (a b : Word) : (s.setAB a b).clink0 = s.clink0 := rfl
@[simp] theorem State.setAB_clink1 (s : State) (a b : Word) : (s.setAB a b).clink1 = s.clink1 := rfl
@[simp] theorem State.setAB_vcp (s : State) (a b : Word) : (s.setAB a b).vcp = s.vcp := rfl
@[simp] theorem State.setAB_events (s : State) (a b : Word) : (s.setAB a b).events = s.events := rfl
@[simp] theorem State.setAB_ctl (s : State) (a b : Word) : (s.setAB a b).ctl = s.ctl := rfl
@[simp] theorem State.setAB_agenda (s : State) (a b : Word) : (s.setAB a b).agenda = s.agenda := rfl
@[simp] theorem State.setAB_cpuMode (s : State) (a b : Word) : (s.setAB a b).cpuMode = s.cpuMode := rfl
@[simp] theorem State.setAB_resuming (s : State) (a b : Word) : (s.setAB a b).resuming = s.resuming := rfl
@[simp] theorem State.setAB_descheduled (s : State) (a b : Word) : (s.setAB a b).descheduled = s.descheduled := rfl
@[simp] theorem State.setAB_rcTails (s : State) (a b : Word) : (s.setAB a b).rcTails = s.rcTails := rfl
@[simp] theorem State.setAB_temps (s : State) (a b : Word) : (s.setAB a b).temps = s.temps := rfl
@[simp] theorem State.setAB_trouble (s : State) (a b : Word) : (s.setAB a b).trouble = s.trouble := rfl
@[simp] theorem State.setAB_draws (s : State) (a b : Word) : (s.setAB a b).draws = s.draws := rfl

@[simp] theorem State.setABC_r (s : State) (a b c : Word) : (s.setABC a b c).r = { s.r with areg := a, breg := b, creg := c } := rfl
@[simp] theorem State.setABC_sh (s : State) (a b c : Word) : (s.setABC a b c).sh = s.sh := rfl
@[simp] theorem State.setABC_shadowValid (s : State) (a b c : Word) : (s.setABC a b c).shadowValid = s.shadowValid := rfl
@[simp] theorem State.setABC_oreg (s : State) (a b c : Word) : (s.setABC a b c).oreg = s.oreg := rfl
@[simp] theorem State.setABC_inChain (s : State) (a b c : Word) : (s.setABC a b c).inChain = s.inChain := rfl
@[simp] theorem State.setABC_hi (s : State) (a b c : Word) : (s.setABC a b c).hi = s.hi := rfl
@[simp] theorem State.setABC_lo (s : State) (a b c : Word) : (s.setABC a b c).lo = s.lo := rfl
@[simp] theorem State.setABC_clockRunning (s : State) (a b c : Word) : (s.setABC a b c).clockRunning = s.clockRunning := rfl
@[simp] theorem State.setABC_tickPhase (s : State) (a b c : Word) : (s.setABC a b c).tickPhase = s.tickPhase := rfl
@[simp] theorem State.setABC_tsCount (s : State) (a b c : Word) : (s.setABC a b c).tsCount = s.tsCount := rfl
@[simp] theorem State.setABC_intEnabled (s : State) (a b c : Word) : (s.setABC a b c).intEnabled = s.intEnabled := rfl
@[simp] theorem State.setABC_mem (s : State) (a b c : Word) : (s.setABC a b c).mem = s.mem := rfl
@[simp] theorem State.setABC_cache (s : State) (a b c : Word) : (s.setABC a b c).cache = s.cache := rfl
@[simp] theorem State.setABC_ws (s : State) (a b c : Word) : (s.setABC a b c).ws = s.ws := rfl
@[simp] theorem State.setABC_prefetch (s : State) (a b c : Word) : (s.setABC a b c).prefetch = s.prefetch := rfl
@[simp] theorem State.setABC_conf (s : State) (a b c : Word) : (s.setABC a b c).conf = s.conf := rfl
@[simp] theorem State.setABC_links (s : State) (a b c : Word) : (s.setABC a b c).links = s.links := rfl
@[simp] theorem State.setABC_clink0 (s : State) (a b c : Word) : (s.setABC a b c).clink0 = s.clink0 := rfl
@[simp] theorem State.setABC_clink1 (s : State) (a b c : Word) : (s.setABC a b c).clink1 = s.clink1 := rfl
@[simp] theorem State.setABC_vcp (s : State) (a b c : Word) : (s.setABC a b c).vcp = s.vcp := rfl
@[simp] theorem State.setABC_events (s : State) (a b c : Word) : (s.setABC a b c).events = s.events := rfl
@[simp] theorem State.setABC_ctl (s : State) (a b c : Word) : (s.setABC a b c).ctl = s.ctl := rfl
@[simp] theorem State.setABC_agenda (s : State) (a b c : Word) : (s.setABC a b c).agenda = s.agenda := rfl
@[simp] theorem State.setABC_cpuMode (s : State) (a b c : Word) : (s.setABC a b c).cpuMode = s.cpuMode := rfl
@[simp] theorem State.setABC_resuming (s : State) (a b c : Word) : (s.setABC a b c).resuming = s.resuming := rfl
@[simp] theorem State.setABC_descheduled (s : State) (a b c : Word) : (s.setABC a b c).descheduled = s.descheduled := rfl
@[simp] theorem State.setABC_rcTails (s : State) (a b c : Word) : (s.setABC a b c).rcTails = s.rcTails := rfl
@[simp] theorem State.setABC_temps (s : State) (a b c : Word) : (s.setABC a b c).temps = s.temps := rfl
@[simp] theorem State.setABC_trouble (s : State) (a b c : Word) : (s.setABC a b c).trouble = s.trouble := rfl
@[simp] theorem State.setABC_draws (s : State) (a b c : Word) : (s.setABC a b c).draws = s.draws := rfl

@[simp] theorem State.setIptr_r (s : State) (a : Word) : (s.setIptr a).r = { s.r with iptr := a } := rfl
@[simp] theorem State.setIptr_sh (s : State) (a : Word) : (s.setIptr a).sh = s.sh := rfl
@[simp] theorem State.setIptr_shadowValid (s : State) (a : Word) : (s.setIptr a).shadowValid = s.shadowValid := rfl
@[simp] theorem State.setIptr_oreg (s : State) (a : Word) : (s.setIptr a).oreg = s.oreg := rfl
@[simp] theorem State.setIptr_inChain (s : State) (a : Word) : (s.setIptr a).inChain = s.inChain := rfl
@[simp] theorem State.setIptr_hi (s : State) (a : Word) : (s.setIptr a).hi = s.hi := rfl
@[simp] theorem State.setIptr_lo (s : State) (a : Word) : (s.setIptr a).lo = s.lo := rfl
@[simp] theorem State.setIptr_clockRunning (s : State) (a : Word) : (s.setIptr a).clockRunning = s.clockRunning := rfl
@[simp] theorem State.setIptr_tickPhase (s : State) (a : Word) : (s.setIptr a).tickPhase = s.tickPhase := rfl
@[simp] theorem State.setIptr_tsCount (s : State) (a : Word) : (s.setIptr a).tsCount = s.tsCount := rfl
@[simp] theorem State.setIptr_intEnabled (s : State) (a : Word) : (s.setIptr a).intEnabled = s.intEnabled := rfl
@[simp] theorem State.setIptr_mem (s : State) (a : Word) : (s.setIptr a).mem = s.mem := rfl
@[simp] theorem State.setIptr_cache (s : State) (a : Word) : (s.setIptr a).cache = s.cache := rfl
@[simp] theorem State.setIptr_ws (s : State) (a : Word) : (s.setIptr a).ws = s.ws := rfl
@[simp] theorem State.setIptr_prefetch (s : State) (a : Word) : (s.setIptr a).prefetch = [] := rfl
@[simp] theorem State.setIptr_conf (s : State) (a : Word) : (s.setIptr a).conf = s.conf := rfl
@[simp] theorem State.setIptr_links (s : State) (a : Word) : (s.setIptr a).links = s.links := rfl
@[simp] theorem State.setIptr_clink0 (s : State) (a : Word) : (s.setIptr a).clink0 = s.clink0 := rfl
@[simp] theorem State.setIptr_clink1 (s : State) (a : Word) : (s.setIptr a).clink1 = s.clink1 := rfl
@[simp] theorem State.setIptr_vcp (s : State) (a : Word) : (s.setIptr a).vcp = s.vcp := rfl
@[simp] theorem State.setIptr_events (s : State) (a : Word) : (s.setIptr a).events = s.events := rfl
@[simp] theorem State.setIptr_ctl (s : State) (a : Word) : (s.setIptr a).ctl = s.ctl := rfl
@[simp] theorem State.setIptr_agenda (s : State) (a : Word) : (s.setIptr a).agenda = s.agenda := rfl
@[simp] theorem State.setIptr_cpuMode (s : State) (a : Word) : (s.setIptr a).cpuMode = s.cpuMode := rfl
@[simp] theorem State.setIptr_resuming (s : State) (a : Word) : (s.setIptr a).resuming = s.resuming := rfl
@[simp] theorem State.setIptr_descheduled (s : State) (a : Word) : (s.setIptr a).descheduled = s.descheduled := rfl
@[simp] theorem State.setIptr_rcTails (s : State) (a : Word) : (s.setIptr a).rcTails = s.rcTails := rfl
@[simp] theorem State.setIptr_temps (s : State) (a : Word) : (s.setIptr a).temps = s.temps := rfl
@[simp] theorem State.setIptr_trouble (s : State) (a : Word) : (s.setIptr a).trouble = s.trouble := rfl
@[simp] theorem State.setIptr_draws (s : State) (a : Word) : (s.setIptr a).draws = s.draws := rfl

@[simp] theorem State.fpush_r (s : State) (e : FpEntry) : (s.fpush e).r = { s.r with fpA := e, fpB := s.r.fpA, fpC := s.r.fpB } := rfl
@[simp] theorem State.fpush_sh (s : State) (e : FpEntry) : (s.fpush e).sh = s.sh := rfl
@[simp] theorem State.fpush_shadowValid (s : State) (e : FpEntry) : (s.fpush e).shadowValid = s.shadowValid := rfl
@[simp] theorem State.fpush_oreg (s : State) (e : FpEntry) : (s.fpush e).oreg = s.oreg := rfl
@[simp] theorem State.fpush_inChain (s : State) (e : FpEntry) : (s.fpush e).inChain = s.inChain := rfl
@[simp] theorem State.fpush_hi (s : State) (e : FpEntry) : (s.fpush e).hi = s.hi := rfl
@[simp] theorem State.fpush_lo (s : State) (e : FpEntry) : (s.fpush e).lo = s.lo := rfl
@[simp] theorem State.fpush_clockRunning (s : State) (e : FpEntry) : (s.fpush e).clockRunning = s.clockRunning := rfl
@[simp] theorem State.fpush_tickPhase (s : State) (e : FpEntry) : (s.fpush e).tickPhase = s.tickPhase := rfl
@[simp] theorem State.fpush_tsCount (s : State) (e : FpEntry) : (s.fpush e).tsCount = s.tsCount := rfl
@[simp] theorem State.fpush_intEnabled (s : State) (e : FpEntry) : (s.fpush e).intEnabled = s.intEnabled := rfl
@[simp] theorem State.fpush_mem (s : State) (e : FpEntry) : (s.fpush e).mem = s.mem := rfl
@[simp] theorem State.fpush_cache (s : State) (e : FpEntry) : (s.fpush e).cache = s.cache := rfl
@[simp] theorem State.fpush_ws (s : State) (e : FpEntry) : (s.fpush e).ws = s.ws := rfl
@[simp] theorem State.fpush_prefetch (s : State) (e : FpEntry) : (s.fpush e).prefetch = s.prefetch := rfl
@[simp] theorem State.fpush_conf (s : State) (e : FpEntry) : (s.fpush e).conf = s.conf := rfl
@[simp] theorem State.fpush_links (s : State) (e : FpEntry) : (s.fpush e).links = s.links := rfl
@[simp] theorem State.fpush_clink0 (s : State) (e : FpEntry) : (s.fpush e).clink0 = s.clink0 := rfl
@[simp] theorem State.fpush_clink1 (s : State) (e : FpEntry) : (s.fpush e).clink1 = s.clink1 := rfl
@[simp] theorem State.fpush_vcp (s : State) (e : FpEntry) : (s.fpush e).vcp = s.vcp := rfl
@[simp] theorem State.fpush_events (s : State) (e : FpEntry) : (s.fpush e).events = s.events := rfl
@[simp] theorem State.fpush_ctl (s : State) (e : FpEntry) : (s.fpush e).ctl = s.ctl := rfl
@[simp] theorem State.fpush_agenda (s : State) (e : FpEntry) : (s.fpush e).agenda = s.agenda := rfl
@[simp] theorem State.fpush_cpuMode (s : State) (e : FpEntry) : (s.fpush e).cpuMode = s.cpuMode := rfl
@[simp] theorem State.fpush_resuming (s : State) (e : FpEntry) : (s.fpush e).resuming = s.resuming := rfl
@[simp] theorem State.fpush_descheduled (s : State) (e : FpEntry) : (s.fpush e).descheduled = s.descheduled := rfl
@[simp] theorem State.fpush_rcTails (s : State) (e : FpEntry) : (s.fpush e).rcTails = s.rcTails := rfl
@[simp] theorem State.fpush_temps (s : State) (e : FpEntry) : (s.fpush e).temps = s.temps := rfl
@[simp] theorem State.fpush_trouble (s : State) (e : FpEntry) : (s.fpush e).trouble = s.trouble := rfl
@[simp] theorem State.fpush_draws (s : State) (e : FpEntry) : (s.fpush e).draws = s.draws := rfl

@[simp] theorem State.fpop1_r (s : State) : s.fpop1.r = { s.r with fpA := s.r.fpB, fpB := s.r.fpC, fpC := freeEntry s.draws } := rfl
@[simp] theorem State.fpop1_sh (s : State) : s.fpop1.sh = s.sh := rfl
@[simp] theorem State.fpop1_shadowValid (s : State) : s.fpop1.shadowValid = s.shadowValid := rfl
@[simp] theorem State.fpop1_oreg (s : State) : s.fpop1.oreg = s.oreg := rfl
@[simp] theorem State.fpop1_inChain (s : State) : s.fpop1.inChain = s.inChain := rfl
@[simp] theorem State.fpop1_hi (s : State) : s.fpop1.hi = s.hi := rfl
@[simp] theorem State.fpop1_lo (s : State) : s.fpop1.lo = s.lo := rfl
@[simp] theorem State.fpop1_clockRunning (s : State) : s.fpop1.clockRunning = s.clockRunning := rfl
@[simp] theorem State.fpop1_tickPhase (s : State) : s.fpop1.tickPhase = s.tickPhase := rfl
@[simp] theorem State.fpop1_tsCount (s : State) : s.fpop1.tsCount = s.tsCount := rfl
@[simp] theorem State.fpop1_intEnabled (s : State) : s.fpop1.intEnabled = s.intEnabled := rfl
@[simp] theorem State.fpop1_mem (s : State) : s.fpop1.mem = s.mem := rfl
@[simp] theorem State.fpop1_cache (s : State) : s.fpop1.cache = s.cache := rfl
@[simp] theorem State.fpop1_ws (s : State) : s.fpop1.ws = s.ws := rfl
@[simp] theorem State.fpop1_prefetch (s : State) : s.fpop1.prefetch = s.prefetch := rfl
@[simp] theorem State.fpop1_conf (s : State) : s.fpop1.conf = s.conf := rfl
@[simp] theorem State.fpop1_links (s : State) : s.fpop1.links = s.links := rfl
@[simp] theorem State.fpop1_clink0 (s : State) : s.fpop1.clink0 = s.clink0 := rfl
@[simp] theorem State.fpop1_clink1 (s : State) : s.fpop1.clink1 = s.clink1 := rfl
@[simp] theorem State.fpop1_vcp (s : State) : s.fpop1.vcp = s.vcp := rfl
@[simp] theorem State.fpop1_events (s : State) : s.fpop1.events = s.events := rfl
@[simp] theorem State.fpop1_ctl (s : State) : s.fpop1.ctl = s.ctl := rfl
@[simp] theorem State.fpop1_agenda (s : State) : s.fpop1.agenda = s.agenda := rfl
@[simp] theorem State.fpop1_cpuMode (s : State) : s.fpop1.cpuMode = s.cpuMode := rfl
@[simp] theorem State.fpop1_resuming (s : State) : s.fpop1.resuming = s.resuming := rfl
@[simp] theorem State.fpop1_descheduled (s : State) : s.fpop1.descheduled = s.descheduled := rfl
@[simp] theorem State.fpop1_rcTails (s : State) : s.fpop1.rcTails = s.rcTails := rfl
@[simp] theorem State.fpop1_temps (s : State) : s.fpop1.temps = s.temps := rfl
@[simp] theorem State.fpop1_trouble (s : State) : s.fpop1.trouble = s.trouble := rfl
@[simp] theorem State.fpop1_draws (s : State) : s.fpop1.draws = s.draws + 1 := rfl

@[simp] theorem State.fpop2_r (s : State) : s.fpop2.r = { s.r with fpA := s.r.fpC, fpB := freeEntry s.draws, fpC := freeEntry (s.draws + 1) } := rfl
@[simp] theorem State.fpop2_sh (s : State) : s.fpop2.sh = s.sh := rfl
@[simp] theorem State.fpop2_shadowValid (s : State) : s.fpop2.shadowValid = s.shadowValid := rfl
@[simp] theorem State.fpop2_oreg (s : State) : s.fpop2.oreg = s.oreg := rfl
@[simp] theorem State.fpop2_inChain (s : State) : s.fpop2.inChain = s.inChain := rfl
@[simp] theorem State.fpop2_hi (s : State) : s.fpop2.hi = s.hi := rfl
@[simp] theorem State.fpop2_lo (s : State) : s.fpop2.lo = s.lo := rfl
@[simp] theorem State.fpop2_clockRunning (s : State) : s.fpop2.clockRunning = s.clockRunning := rfl
@[simp] theorem State.fpop2_tickPhase (s : State) : s.fpop2.tickPhase = s.tickPhase := rfl
@[simp] theorem State.fpop2_tsCount (s : State) : s.fpop2.tsCount = s.tsCount := rfl
@[simp] theorem State.fpop2_intEnabled (s : State) : s.fpop2.intEnabled = s.intEnabled := rfl
@[simp] theorem State.fpop2_mem (s : State) : s.fpop2.mem = s.mem := rfl
@[simp] theorem State.fpop2_cache (s : State) : s.fpop2.cache = s.cache := rfl
@[simp] theorem State.fpop2_ws (s : State) : s.fpop2.ws = s.ws := rfl
@[simp] theorem State.fpop2_prefetch (s : State) : s.fpop2.prefetch = s.prefetch := rfl
@[simp] theorem State.fpop2_conf (s : State) : s.fpop2.conf = s.conf := rfl
@[simp] theorem State.fpop2_links (s : State) : s.fpop2.links = s.links := rfl
@[simp] theorem State.fpop2_clink0 (s : State) : s.fpop2.clink0 = s.clink0 := rfl
@[simp] theorem State.fpop2_clink1 (s : State) : s.fpop2.clink1 = s.clink1 := rfl
@[simp] theorem State.fpop2_vcp (s : State) : s.fpop2.vcp = s.vcp := rfl
@[simp] theorem State.fpop2_events (s : State) : s.fpop2.events = s.events := rfl
@[simp] theorem State.fpop2_ctl (s : State) : s.fpop2.ctl = s.ctl := rfl
@[simp] theorem State.fpop2_agenda (s : State) : s.fpop2.agenda = s.agenda := rfl
@[simp] theorem State.fpop2_cpuMode (s : State) : s.fpop2.cpuMode = s.cpuMode := rfl
@[simp] theorem State.fpop2_resuming (s : State) : s.fpop2.resuming = s.resuming := rfl
@[simp] theorem State.fpop2_descheduled (s : State) : s.fpop2.descheduled = s.descheduled := rfl
@[simp] theorem State.fpop2_rcTails (s : State) : s.fpop2.rcTails = s.rcTails := rfl
@[simp] theorem State.fpop2_temps (s : State) : s.fpop2.temps = s.temps := rfl
@[simp] theorem State.fpop2_trouble (s : State) : s.fpop2.trouble = s.trouble := rfl
@[simp] theorem State.fpop2_draws (s : State) : s.fpop2.draws = s.draws + 2 := rfl

@[simp] theorem State.setFpA_r (s : State) (e : FpEntry) : (s.setFpA e).r = { s.r with fpA := e } := rfl
@[simp] theorem State.setFpA_sh (s : State) (e : FpEntry) : (s.setFpA e).sh = s.sh := rfl
@[simp] theorem State.setFpA_shadowValid (s : State) (e : FpEntry) : (s.setFpA e).shadowValid = s.shadowValid := rfl
@[simp] theorem State.setFpA_oreg (s : State) (e : FpEntry) : (s.setFpA e).oreg = s.oreg := rfl
@[simp] theorem State.setFpA_inChain (s : State) (e : FpEntry) : (s.setFpA e).inChain = s.inChain := rfl
@[simp] theorem State.setFpA_hi (s : State) (e : FpEntry) : (s.setFpA e).hi = s.hi := rfl
@[simp] theorem State.setFpA_lo (s : State) (e : FpEntry) : (s.setFpA e).lo = s.lo := rfl
@[simp] theorem State.setFpA_clockRunning (s : State) (e : FpEntry) : (s.setFpA e).clockRunning = s.clockRunning := rfl
@[simp] theorem State.setFpA_tickPhase (s : State) (e : FpEntry) : (s.setFpA e).tickPhase = s.tickPhase := rfl
@[simp] theorem State.setFpA_tsCount (s : State) (e : FpEntry) : (s.setFpA e).tsCount = s.tsCount := rfl
@[simp] theorem State.setFpA_intEnabled (s : State) (e : FpEntry) : (s.setFpA e).intEnabled = s.intEnabled := rfl
@[simp] theorem State.setFpA_mem (s : State) (e : FpEntry) : (s.setFpA e).mem = s.mem := rfl
@[simp] theorem State.setFpA_cache (s : State) (e : FpEntry) : (s.setFpA e).cache = s.cache := rfl
@[simp] theorem State.setFpA_ws (s : State) (e : FpEntry) : (s.setFpA e).ws = s.ws := rfl
@[simp] theorem State.setFpA_prefetch (s : State) (e : FpEntry) : (s.setFpA e).prefetch = s.prefetch := rfl
@[simp] theorem State.setFpA_conf (s : State) (e : FpEntry) : (s.setFpA e).conf = s.conf := rfl
@[simp] theorem State.setFpA_links (s : State) (e : FpEntry) : (s.setFpA e).links = s.links := rfl
@[simp] theorem State.setFpA_clink0 (s : State) (e : FpEntry) : (s.setFpA e).clink0 = s.clink0 := rfl
@[simp] theorem State.setFpA_clink1 (s : State) (e : FpEntry) : (s.setFpA e).clink1 = s.clink1 := rfl
@[simp] theorem State.setFpA_vcp (s : State) (e : FpEntry) : (s.setFpA e).vcp = s.vcp := rfl
@[simp] theorem State.setFpA_events (s : State) (e : FpEntry) : (s.setFpA e).events = s.events := rfl
@[simp] theorem State.setFpA_ctl (s : State) (e : FpEntry) : (s.setFpA e).ctl = s.ctl := rfl
@[simp] theorem State.setFpA_agenda (s : State) (e : FpEntry) : (s.setFpA e).agenda = s.agenda := rfl
@[simp] theorem State.setFpA_cpuMode (s : State) (e : FpEntry) : (s.setFpA e).cpuMode = s.cpuMode := rfl
@[simp] theorem State.setFpA_resuming (s : State) (e : FpEntry) : (s.setFpA e).resuming = s.resuming := rfl
@[simp] theorem State.setFpA_descheduled (s : State) (e : FpEntry) : (s.setFpA e).descheduled = s.descheduled := rfl
@[simp] theorem State.setFpA_rcTails (s : State) (e : FpEntry) : (s.setFpA e).rcTails = s.rcTails := rfl
@[simp] theorem State.setFpA_temps (s : State) (e : FpEntry) : (s.setFpA e).temps = s.temps := rfl
@[simp] theorem State.setFpA_trouble (s : State) (e : FpEntry) : (s.setFpA e).trouble = s.trouble := rfl
@[simp] theorem State.setFpA_draws (s : State) (e : FpEntry) : (s.setFpA e).draws = s.draws := rfl

@[simp] theorem State.fdyadic_r (s : State) (e : FpEntry) : (s.fdyadic e).r = { s.r with fpA := e, fpB := s.r.fpC, fpC := freeEntry s.draws } := rfl
@[simp] theorem State.fdyadic_sh (s : State) (e : FpEntry) : (s.fdyadic e).sh = s.sh := rfl
@[simp] theorem State.fdyadic_shadowValid (s : State) (e : FpEntry) : (s.fdyadic e).shadowValid = s.shadowValid := rfl
@[simp] theorem State.fdyadic_oreg (s : State) (e : FpEntry) : (s.fdyadic e).oreg = s.oreg := rfl
@[simp] theorem State.fdyadic_inChain (s : State) (e : FpEntry) : (s.fdyadic e).inChain = s.inChain := rfl
@[simp] theorem State.fdyadic_hi (s : State) (e : FpEntry) : (s.fdyadic e).hi = s.hi := rfl
@[simp] theorem State.fdyadic_lo (s : State) (e : FpEntry) : (s.fdyadic e).lo = s.lo := rfl
@[simp] theorem State.fdyadic_clockRunning (s : State) (e : FpEntry) : (s.fdyadic e).clockRunning = s.clockRunning := rfl
@[simp] theorem State.fdyadic_tickPhase (s : State) (e : FpEntry) : (s.fdyadic e).tickPhase = s.tickPhase := rfl
@[simp] theorem State.fdyadic_tsCount (s : State) (e : FpEntry) : (s.fdyadic e).tsCount = s.tsCount := rfl
@[simp] theorem State.fdyadic_intEnabled (s : State) (e : FpEntry) : (s.fdyadic e).intEnabled = s.intEnabled := rfl
@[simp] theorem State.fdyadic_mem (s : State) (e : FpEntry) : (s.fdyadic e).mem = s.mem := rfl
@[simp] theorem State.fdyadic_cache (s : State) (e : FpEntry) : (s.fdyadic e).cache = s.cache := rfl
@[simp] theorem State.fdyadic_ws (s : State) (e : FpEntry) : (s.fdyadic e).ws = s.ws := rfl
@[simp] theorem State.fdyadic_prefetch (s : State) (e : FpEntry) : (s.fdyadic e).prefetch = s.prefetch := rfl
@[simp] theorem State.fdyadic_conf (s : State) (e : FpEntry) : (s.fdyadic e).conf = s.conf := rfl
@[simp] theorem State.fdyadic_links (s : State) (e : FpEntry) : (s.fdyadic e).links = s.links := rfl
@[simp] theorem State.fdyadic_clink0 (s : State) (e : FpEntry) : (s.fdyadic e).clink0 = s.clink0 := rfl
@[simp] theorem State.fdyadic_clink1 (s : State) (e : FpEntry) : (s.fdyadic e).clink1 = s.clink1 := rfl
@[simp] theorem State.fdyadic_vcp (s : State) (e : FpEntry) : (s.fdyadic e).vcp = s.vcp := rfl
@[simp] theorem State.fdyadic_events (s : State) (e : FpEntry) : (s.fdyadic e).events = s.events := rfl
@[simp] theorem State.fdyadic_ctl (s : State) (e : FpEntry) : (s.fdyadic e).ctl = s.ctl := rfl
@[simp] theorem State.fdyadic_agenda (s : State) (e : FpEntry) : (s.fdyadic e).agenda = s.agenda := rfl
@[simp] theorem State.fdyadic_cpuMode (s : State) (e : FpEntry) : (s.fdyadic e).cpuMode = s.cpuMode := rfl
@[simp] theorem State.fdyadic_resuming (s : State) (e : FpEntry) : (s.fdyadic e).resuming = s.resuming := rfl
@[simp] theorem State.fdyadic_descheduled (s : State) (e : FpEntry) : (s.fdyadic e).descheduled = s.descheduled := rfl
@[simp] theorem State.fdyadic_rcTails (s : State) (e : FpEntry) : (s.fdyadic e).rcTails = s.rcTails := rfl
@[simp] theorem State.fdyadic_temps (s : State) (e : FpEntry) : (s.fdyadic e).temps = s.temps := rfl
@[simp] theorem State.fdyadic_trouble (s : State) (e : FpEntry) : (s.fdyadic e).trouble = s.trouble := rfl
@[simp] theorem State.fdyadic_draws (s : State) (e : FpEntry) : (s.fdyadic e).draws = s.draws + 1 := rfl

@[simp] theorem State.setRound_r (s : State) (m : BitVec 2) : (s.setRound m).r = { s.r with round := m } := rfl
@[simp] theorem State.setRound_sh (s : State) (m : BitVec 2) : (s.setRound m).sh = s.sh := rfl
@[simp] theorem State.setRound_shadowValid (s : State) (m : BitVec 2) : (s.setRound m).shadowValid = s.shadowValid := rfl
@[simp] theorem State.setRound_oreg (s : State) (m : BitVec 2) : (s.setRound m).oreg = s.oreg := rfl
@[simp] theorem State.setRound_inChain (s : State) (m : BitVec 2) : (s.setRound m).inChain = s.inChain := rfl
@[simp] theorem State.setRound_hi (s : State) (m : BitVec 2) : (s.setRound m).hi = s.hi := rfl
@[simp] theorem State.setRound_lo (s : State) (m : BitVec 2) : (s.setRound m).lo = s.lo := rfl
@[simp] theorem State.setRound_clockRunning (s : State) (m : BitVec 2) : (s.setRound m).clockRunning = s.clockRunning := rfl
@[simp] theorem State.setRound_tickPhase (s : State) (m : BitVec 2) : (s.setRound m).tickPhase = s.tickPhase := rfl
@[simp] theorem State.setRound_tsCount (s : State) (m : BitVec 2) : (s.setRound m).tsCount = s.tsCount := rfl
@[simp] theorem State.setRound_intEnabled (s : State) (m : BitVec 2) : (s.setRound m).intEnabled = s.intEnabled := rfl
@[simp] theorem State.setRound_mem (s : State) (m : BitVec 2) : (s.setRound m).mem = s.mem := rfl
@[simp] theorem State.setRound_cache (s : State) (m : BitVec 2) : (s.setRound m).cache = s.cache := rfl
@[simp] theorem State.setRound_ws (s : State) (m : BitVec 2) : (s.setRound m).ws = s.ws := rfl
@[simp] theorem State.setRound_prefetch (s : State) (m : BitVec 2) : (s.setRound m).prefetch = s.prefetch := rfl
@[simp] theorem State.setRound_conf (s : State) (m : BitVec 2) : (s.setRound m).conf = s.conf := rfl
@[simp] theorem State.setRound_links (s : State) (m : BitVec 2) : (s.setRound m).links = s.links := rfl
@[simp] theorem State.setRound_clink0 (s : State) (m : BitVec 2) : (s.setRound m).clink0 = s.clink0 := rfl
@[simp] theorem State.setRound_clink1 (s : State) (m : BitVec 2) : (s.setRound m).clink1 = s.clink1 := rfl
@[simp] theorem State.setRound_vcp (s : State) (m : BitVec 2) : (s.setRound m).vcp = s.vcp := rfl
@[simp] theorem State.setRound_events (s : State) (m : BitVec 2) : (s.setRound m).events = s.events := rfl
@[simp] theorem State.setRound_ctl (s : State) (m : BitVec 2) : (s.setRound m).ctl = s.ctl := rfl
@[simp] theorem State.setRound_agenda (s : State) (m : BitVec 2) : (s.setRound m).agenda = s.agenda := rfl
@[simp] theorem State.setRound_cpuMode (s : State) (m : BitVec 2) : (s.setRound m).cpuMode = s.cpuMode := rfl
@[simp] theorem State.setRound_resuming (s : State) (m : BitVec 2) : (s.setRound m).resuming = s.resuming := rfl
@[simp] theorem State.setRound_descheduled (s : State) (m : BitVec 2) : (s.setRound m).descheduled = s.descheduled := rfl
@[simp] theorem State.setRound_rcTails (s : State) (m : BitVec 2) : (s.setRound m).rcTails = s.rcTails := rfl
@[simp] theorem State.setRound_temps (s : State) (m : BitVec 2) : (s.setRound m).temps = s.temps := rfl
@[simp] theorem State.setRound_trouble (s : State) (m : BitVec 2) : (s.setRound m).trouble = s.trouble := rfl
@[simp] theorem State.setRound_draws (s : State) (m : BitVec 2) : (s.setRound m).draws = s.draws := rfl

@[simp] theorem State.nearest_r (s : State) : s.nearest.r = { s.r with round := 1#2 } := rfl
@[simp] theorem State.nearest_sh (s : State) : s.nearest.sh = s.sh := rfl
@[simp] theorem State.nearest_shadowValid (s : State) : s.nearest.shadowValid = s.shadowValid := rfl
@[simp] theorem State.nearest_oreg (s : State) : s.nearest.oreg = s.oreg := rfl
@[simp] theorem State.nearest_inChain (s : State) : s.nearest.inChain = s.inChain := rfl
@[simp] theorem State.nearest_hi (s : State) : s.nearest.hi = s.hi := rfl
@[simp] theorem State.nearest_lo (s : State) : s.nearest.lo = s.lo := rfl
@[simp] theorem State.nearest_clockRunning (s : State) : s.nearest.clockRunning = s.clockRunning := rfl
@[simp] theorem State.nearest_tickPhase (s : State) : s.nearest.tickPhase = s.tickPhase := rfl
@[simp] theorem State.nearest_tsCount (s : State) : s.nearest.tsCount = s.tsCount := rfl
@[simp] theorem State.nearest_intEnabled (s : State) : s.nearest.intEnabled = s.intEnabled := rfl
@[simp] theorem State.nearest_mem (s : State) : s.nearest.mem = s.mem := rfl
@[simp] theorem State.nearest_cache (s : State) : s.nearest.cache = s.cache := rfl
@[simp] theorem State.nearest_ws (s : State) : s.nearest.ws = s.ws := rfl
@[simp] theorem State.nearest_prefetch (s : State) : s.nearest.prefetch = s.prefetch := rfl
@[simp] theorem State.nearest_conf (s : State) : s.nearest.conf = s.conf := rfl
@[simp] theorem State.nearest_links (s : State) : s.nearest.links = s.links := rfl
@[simp] theorem State.nearest_clink0 (s : State) : s.nearest.clink0 = s.clink0 := rfl
@[simp] theorem State.nearest_clink1 (s : State) : s.nearest.clink1 = s.clink1 := rfl
@[simp] theorem State.nearest_vcp (s : State) : s.nearest.vcp = s.vcp := rfl
@[simp] theorem State.nearest_events (s : State) : s.nearest.events = s.events := rfl
@[simp] theorem State.nearest_ctl (s : State) : s.nearest.ctl = s.ctl := rfl
@[simp] theorem State.nearest_agenda (s : State) : s.nearest.agenda = s.agenda := rfl
@[simp] theorem State.nearest_cpuMode (s : State) : s.nearest.cpuMode = s.cpuMode := rfl
@[simp] theorem State.nearest_resuming (s : State) : s.nearest.resuming = s.resuming := rfl
@[simp] theorem State.nearest_descheduled (s : State) : s.nearest.descheduled = s.descheduled := rfl
@[simp] theorem State.nearest_rcTails (s : State) : s.nearest.rcTails = s.rcTails := rfl
@[simp] theorem State.nearest_temps (s : State) : s.nearest.temps = s.temps := rfl
@[simp] theorem State.nearest_trouble (s : State) : s.nearest.trouble = s.trouble := rfl
@[simp] theorem State.nearest_draws (s : State) : s.nearest.draws = s.draws := rfl

@[simp] theorem State.setWptr_r (s : State) (w : Word) :
    (s.setWptr w).r = { s.r with wdesc := wordAddr w ||| (s.r.wdesc &&& 1#32) } := rfl
@[simp] theorem State.setWptr_sh (s : State) (w : Word) : (s.setWptr w).sh = s.sh := rfl
@[simp] theorem State.setWptr_shadowValid (s : State) (w : Word) : (s.setWptr w).shadowValid = s.shadowValid := rfl
@[simp] theorem State.setWptr_oreg (s : State) (w : Word) : (s.setWptr w).oreg = s.oreg := rfl
@[simp] theorem State.setWptr_inChain (s : State) (w : Word) : (s.setWptr w).inChain = s.inChain := rfl
@[simp] theorem State.setWptr_hi (s : State) (w : Word) : (s.setWptr w).hi = s.hi := rfl
@[simp] theorem State.setWptr_lo (s : State) (w : Word) : (s.setWptr w).lo = s.lo := rfl
@[simp] theorem State.setWptr_clockRunning (s : State) (w : Word) : (s.setWptr w).clockRunning = s.clockRunning := rfl
@[simp] theorem State.setWptr_tickPhase (s : State) (w : Word) : (s.setWptr w).tickPhase = s.tickPhase := rfl
@[simp] theorem State.setWptr_tsCount (s : State) (w : Word) : (s.setWptr w).tsCount = s.tsCount := rfl
@[simp] theorem State.setWptr_intEnabled (s : State) (w : Word) : (s.setWptr w).intEnabled = s.intEnabled := rfl
@[simp] theorem State.setWptr_mem (s : State) (w : Word) : (s.setWptr w).mem = s.mem := rfl
@[simp] theorem State.setWptr_cache (s : State) (w : Word) : (s.setWptr w).cache = s.cache := rfl
@[simp] theorem State.setWptr_ws (s : State) (w : Word) :
    (s.setWptr w).ws = s.ws.adjusted s.r.wptr (wordAddr w)
      ({ s.r with wdesc := wordAddr w ||| (s.r.wdesc &&& 1#32) } : Regs).physWptr := rfl
@[simp] theorem State.setWptr_prefetch (s : State) (w : Word) : (s.setWptr w).prefetch = s.prefetch := rfl
@[simp] theorem State.setWptr_conf (s : State) (w : Word) : (s.setWptr w).conf = s.conf := rfl
@[simp] theorem State.setWptr_links (s : State) (w : Word) : (s.setWptr w).links = s.links := rfl
@[simp] theorem State.setWptr_clink0 (s : State) (w : Word) : (s.setWptr w).clink0 = s.clink0 := rfl
@[simp] theorem State.setWptr_clink1 (s : State) (w : Word) : (s.setWptr w).clink1 = s.clink1 := rfl
@[simp] theorem State.setWptr_vcp (s : State) (w : Word) : (s.setWptr w).vcp = s.vcp := rfl
@[simp] theorem State.setWptr_events (s : State) (w : Word) : (s.setWptr w).events = s.events := rfl
@[simp] theorem State.setWptr_ctl (s : State) (w : Word) : (s.setWptr w).ctl = s.ctl := rfl
@[simp] theorem State.setWptr_agenda (s : State) (w : Word) : (s.setWptr w).agenda = s.agenda := rfl
@[simp] theorem State.setWptr_cpuMode (s : State) (w : Word) : (s.setWptr w).cpuMode = s.cpuMode := rfl
@[simp] theorem State.setWptr_resuming (s : State) (w : Word) : (s.setWptr w).resuming = s.resuming := rfl
@[simp] theorem State.setWptr_descheduled (s : State) (w : Word) : (s.setWptr w).descheduled = s.descheduled := rfl
@[simp] theorem State.setWptr_rcTails (s : State) (w : Word) : (s.setWptr w).rcTails = s.rcTails := rfl
@[simp] theorem State.setWptr_temps (s : State) (w : Word) : (s.setWptr w).temps = s.temps := rfl
@[simp] theorem State.setWptr_trouble (s : State) (w : Word) : (s.setWptr w).trouble = s.trouble := rfl
@[simp] theorem State.setWptr_draws (s : State) (w : Word) : (s.setWptr w).draws = s.draws := rfl

end Sys2Proof.Machine
end

