-- ==== Sys2Proof/Laws/Ops.lean ====
section
/-! SUPPORT. Laws/Ops: what each shared operation of Machine/Ops.lean, Bus.lean and Reset.lean can do, and what the agents do, said once. -/

namespace Sys2Proof.Machine

/-! ## The end of a step and of an instruction -/

theorem State.done_of_none (s : State) (h : s.trouble = none) : s.done = .next s := by
  simp only [State.done, h]

/-- A step that `done` ends leaves no trouble behind. -/
theorem State.done_next_trouble (s t : State) (h : s.done = .next t) : t.trouble = none := by
  unfold State.done at h
  split at h
  · injection h with e
    rw [← e]
    assumption
  · injection h with e
    rw [← e]
  · injection h with e
    rw [← e]
  · cases h

/-- An instruction ends normally where nothing is due. -/
theorem State.finish_of (s0 s : State) (h0 : s0.r.step = false) (hp : s.r.isP = true → s.timesliceDue = false)
    (hw : s.r.watch = false) (ht : s.trouble = none) : s0.finish s = .next s := by
  unfold State.finish
  have h1 : (s.r.isP && s.timesliceDue) = false := by
    cases h : s.r.isP
    · rfl
    · simp [hp h]
  rw [h1]
  simp only [h0, hw, Bool.or_self, Bool.false_eq_true, if_false, State.done_of_none s ht]

/-- Whether a timeslice is due depends on a few fields only. -/
theorem State.timesliceDue_congr {s t : State} (hw : t.r.wdesc = s.r.wdesc) (hc : t.tsCount = s.tsCount)
    (hs : bitOf t.r.status sbTimesliceDisabledBit = bitOf s.r.status sbTimesliceDisabledBit)
    (hi : t.intEnabled = s.intEnabled) : t.timesliceDue = s.timesliceDue := by
  unfold State.timesliceDue
  rw [hc, hs, hi, Regs.low, Regs.low, hw]

/-- An instruction that leaves StatusReg, WdescReg and the timeslice state alone ends normally from a calm state. -/
theorem State.calm.finish {s t : State} (h : s.calm) (hs : t.r.status = s.r.status) (hw : t.r.wdesc = s.r.wdesc)
    (hc : t.tsCount = s.tsCount) (hi : t.intEnabled = s.intEnabled) (ht : t.trouble = s.trouble) :
    s.finish t = .next t := by
  obtain ⟨h1, h2, h3, h4⟩ := h
  refine State.finish_of s t h2 ?_ (by rw [Regs.watch, hs]; exact h3) (by rw [ht]; exact h1)
  intro hp
  rw [State.timesliceDue_congr hw hc (by rw [hs]) hi]
  exact h4 (by rw [Regs.isP, hs] at hp; exact hp)

/-! ## Signals -/

theorem State.privileged_of (s : State) (k : Out) (h : s.r.isP = false) : s.privileged k = k := by
  simp only [State.privileged, h, Bool.false_eq_true, if_false]

theorem State.check_true (s : State) (k : Out) : s.check true k = k := rfl

theorem State.check_false (s : State) (k : Out) : s.check false k = s.integerError := rfl

theorem wordAddr_of (a : Word) (h : a &&& 3#32 = 0#32) : wordAddr a = a := by
  have : a &&& 0xFFFFFFFC#32 = a &&& ~~~ 3#32 := rfl
  rw [wordAddr, this]
  apply BitVec.eq_of_getLsbD_eq
  intro i hi
  have t := congrArg (fun x => BitVec.getLsbD x i) h
  simp only [BitVec.getLsbD_and, BitVec.getLsbD_zero] at t
  simp only [BitVec.getLsbD_and, BitVec.getLsbD_not, hi, decide_true, Bool.true_and]
  cases ha : a.getLsbD i
  · rfl
  · rw [ha, Bool.true_and] at t
    rw [t]
    rfl

theorem State.alignW_of (s : State) (a : Word) (k : Word → Out) (h : a &&& 3#32 = 0#32) : s.alignW a k = k a := by
  simp [State.alignW, h, wordAddr_of a h]

theorem State.alignW_trap (s : State) (a : Word) (k : Word → Out) (h : a &&& 3#32 ≠ 0#32)
    (ht : bitOf s.r.status sbUnalignTeBit = true) : s.alignW a k = s.errTrap etUnalign := by
  have hb : (a &&& 3#32 != 0#32) = true := by simpa using h
  unfold State.alignW
  rw [hb, ht]
  rfl

theorem State.alignW_free (s : State) (a : Word) (k : Word → Out)
    (ht : bitOf s.r.status sbUnalignTeBit = false) : s.alignW a k = k (wordAddr a) := by
  unfold State.alignW
  rw [ht, Bool.and_false]
  rfl

/-- A checked result that does not overflow. -/
theorem State.overflow_false (s t : State) : s.overflow false t = s.finish t := rfl

/-- An overflow with its trap disabled sets the flag. -/
theorem State.overflow_flag (s t : State) (h : bitOf s.r.status sbIntOvTeBit = false) :
    s.overflow true t = s.finish { t with r := { t.r with status := setBit t.r.status sbIntOvFlag } } := by
  simp only [State.overflow, h, if_true, Bool.false_eq_true, if_false]

/-- An overflow with its trap enabled. -/
theorem State.overflow_trap (s t : State) (h : bitOf s.r.status sbIntOvTeBit = true) :
    s.overflow true t = s.errTrap etIntegerOverflow := by
  simp only [State.overflow, h, if_true]

/-! ## Accesses -/

theorem Regs.translate_of (r : Regs) (dev : Bool) (k : Access) (a : Word) (h : r.isP = false) :
    r.translate dev k a = .ok a := by
  simp only [Regs.translate, h, Bool.false_eq_true, if_false]

theorem State.withAddr_read {s : State} {dev : Bool} {a p : Word} (f : Word → Out) (h : s.CanRead dev a p) :
    s.withAddr dev .read a f = f p := by
  obtain ⟨h1, h2, h3⟩ := h
  unfold State.withAddr
  rw [h1]
  simp only [h2, Bool.false_eq_true, if_false]
  rw [show (Access.read == Access.write) = false from rfl, h3]
  simp

theorem State.withAddr_write {s : State} {dev : Bool} {a p : Word} (f : Word → Out) (h : s.WriteReaches dev a p) :
    s.withAddr dev .write a f = f p := by
  obtain ⟨h1, h2, h3⟩ := h
  unfold State.withAddr
  rw [h1]
  simp only [h2, Bool.false_eq_true, if_false]
  rw [show (Access.write == Access.write) = true from rfl, h3]
  simp

theorem State.loadW_of {s : State} {dev : Bool} {a p : Word} (k : State → Word → Out) (h : s.CanRead dev a p) :
    s.loadW dev a k = k (s.loadMiss dev p) (if dev then s.devWord p else s.wordAt p) := State.withAddr_read _ h

theorem State.loadH_of {s : State} {dev : Bool} {a p : Word} (k : State → Half → Out) (h : s.CanRead dev a p) :
    s.loadH dev a k = k (s.loadMiss dev p) (s.byteFor dev (p + 1#32) ++ s.byteFor dev p) := State.withAddr_read _ h

theorem State.loadB_of {s : State} {dev : Bool} {a p : Word} (k : State → Byte → Out) (h : s.CanRead dev a p) :
    s.loadB dev a k = k (s.loadMiss dev p) (s.byteFor dev p) := State.withAddr_read _ h

/-- A load that is no device load finds what memory holds. -/
@[simp] theorem State.byteFor_false (s : State) (a : Word) : s.byteFor false a = s.byteAt a := rfl

/-- Where the cache holds nothing of an address, a device load finds what memory holds. -/
theorem State.devWord_of (s : State) (a : Word) (h : s.cache.holds (blockOf a) = false) : s.devWord a = s.wordAt a := by
  unfold State.devWord
  rw [List.find?_eq_none.mpr]
  intro l hl
  simpa using List.any_eq_false.mp h l hl

/-- A write that is not watched does not touch StatusReg. -/
theorem State.watchWrite_of (s : State) (a : Word) (h : s.watches a = false) : s.watchWrite a = s := by
  unfold State.watchWrite
  unfold State.watches at h
  rw [h]
  rfl

/-- A watched write sets the pending bit. -/
theorem State.watchWrite_hit (s : State) (a : Word) (h : s.watches a = true) :
    s.watchWrite a = { s with r := { s.r with status := setBit s.r.status sbWtchPntPend } } := by
  unfold State.watchWrite
  unfold State.watches at h
  rw [h]
  rfl

@[simp] theorem State.putWord_r (s : State) (dev : Bool) (a v : Word) : (s.putWord dev a v).r = s.r := by
  unfold State.putWord State.storeMem
  split <;> rfl

@[simp] theorem State.putHalf_r (s : State) (dev : Bool) (a : Word) (v : Half) : (s.putHalf dev a v).r = s.r := by
  unfold State.putHalf State.storeMem
  split <;> rfl

@[simp] theorem State.putByte_r (s : State) (dev : Bool) (a : Word) (v : Byte) : (s.putByte dev a v).r = s.r := by
  unfold State.putByte State.storeMem
  split <;> rfl

/-- A word stored where memory or the cache takes it: everything it changes. -/
theorem State.putWord_eq (s : State) (dev : Bool) (a v : Word) (h : s.takes dev a = true) :
    s.putWord dev a v = { s with
      mem := s.mem.writeWord a v, cache := s.cacheStore dev a fun m => m.writeWord a v, prefetch := s.prefetchWrite a
      ws := s.ws.wordWritten s.r.physWptr a } := by
  simp only [State.putWord, State.storeMem, h, if_true]

theorem State.putHalf_eq (s : State) (dev : Bool) (a : Word) (v : Half) (h : s.takes dev a = true) :
    s.putHalf dev a v = { s with
      mem := s.mem.writeHalf a v, cache := s.cacheStore dev a fun m => m.writeHalf a v, prefetch := s.prefetchWrite a
      ws := s.ws.partWritten s.r.physWptr (wordAddr a) } := by
  simp only [State.putHalf, State.storeMem, h, if_true]

theorem State.putByte_eq (s : State) (dev : Bool) (a : Word) (v : Byte) (h : s.takes dev a = true) :
    s.putByte dev a v = { s with
      mem := s.mem.write a.toNat v, cache := s.cacheStore dev a fun m => m.write a.toNat v, prefetch := s.prefetchWrite a
      ws := s.ws.partWritten s.r.physWptr (wordAddr a) } := by
  simp only [State.putByte, State.storeMem, h, if_true]

/-- A store changes only the lines recorded of the cache. -/
theorem State.cacheStore_eq (s : State) (dev : Bool) (a : Word) (f : Memory → Memory) :
    s.cacheStore dev a f = { s.cache with lines := (s.cacheStore dev a f).lines } := by
  unfold State.cacheStore
  split <;> split <;> (try split) <;> rfl

/-- Memory that keeps a store takes it. -/
theorem State.takes_of_keeps (s : State) (dev : Bool) (a : Word) (h : s.keeps a = true) : s.takes dev a = true := by
  simp [State.takes, h]

theorem State.storeW_of {s : State} {dev : Bool} {a p : Word} {v : Word} (k : State → Out) (h : s.CanWrite dev a p)
    (hw : s.watches a = false) :
    s.storeW dev a v k = k { s with
      mem := s.mem.writeWord p v, cache := s.cacheStore dev p fun m => m.writeWord p v, prefetch := s.prefetchWrite p
      ws := s.ws.wordWritten s.r.physWptr p } := by
  unfold State.storeW
  rw [State.withAddr_write _ h.1, State.watchWrite_of, State.putWord_eq s dev p v h.2]
  rw [State.putWord_eq s dev p v h.2]
  exact hw

theorem State.storeH_of {s : State} {dev : Bool} {a p : Word} {v : Half} (k : State → Out) (h : s.CanWrite dev a p)
    (hw : s.watches a = false) :
    s.storeH dev a v k = k { s with
      mem := s.mem.writeHalf p v, cache := s.cacheStore dev p fun m => m.writeHalf p v, prefetch := s.prefetchWrite p
      ws := s.ws.partWritten s.r.physWptr (wordAddr p) } := by
  unfold State.storeH
  rw [State.withAddr_write _ h.1, State.watchWrite_of, State.putHalf_eq s dev p v h.2]
  rw [State.putHalf_eq s dev p v h.2]
  exact hw

theorem State.storeB_of {s : State} {dev : Bool} {a p : Word} {v : Byte} (k : State → Out) (h : s.CanWrite dev a p)
    (hw : s.watches a = false) :
    s.storeB dev a v k = k { s with
      mem := s.mem.write p.toNat v, cache := s.cacheStore dev p fun m => m.write p.toNat v, prefetch := s.prefetchWrite p
      ws := s.ws.partWritten s.r.physWptr (wordAddr p) } := by
  unfold State.storeB
  rw [State.withAddr_write _ h.1, State.watchWrite_of, State.putByte_eq s dev p v h.2]
  rw [State.putByte_eq s dev p v h.2]
  exact hw

/-- A store that nothing takes changes no memory. -/
theorem State.storeW_untaken {s : State} {dev : Bool} {a p : Word} {v : Word} (k : State → Out)
    (h : s.WriteReaches dev a p) (ht : s.takes dev p = false) (hw : s.watches a = false) :
    s.storeW dev a v k = k { s with ws := s.ws.wordWritten s.r.physWptr p } := by
  have e : s.putWord dev p v = { s with ws := s.ws.wordWritten s.r.physWptr p } := by
    simp [State.putWord, State.storeMem, ht]
  unfold State.storeW
  rw [State.withAddr_write _ h, e, State.watchWrite_of]
  exact hw

theorem State.storeH_untaken {s : State} {dev : Bool} {a p : Word} {v : Half} (k : State → Out)
    (h : s.WriteReaches dev a p) (ht : s.takes dev p = false) (hw : s.watches a = false) :
    s.storeH dev a v k = k { s with ws := s.ws.partWritten s.r.physWptr (wordAddr p) } := by
  have e : s.putHalf dev p v = { s with ws := s.ws.partWritten s.r.physWptr (wordAddr p) } := by
    simp [State.putHalf, State.storeMem, ht]
  unfold State.storeH
  rw [State.withAddr_write _ h, e, State.watchWrite_of]
  exact hw

theorem State.storeB_untaken {s : State} {dev : Bool} {a p : Word} {v : Byte} (k : State → Out)
    (h : s.WriteReaches dev a p) (ht : s.takes dev p = false) (hw : s.watches a = false) :
    s.storeB dev a v k = k { s with ws := s.ws.partWritten s.r.physWptr (wordAddr p) } := by
  have e : s.putByte dev p v = { s with ws := s.ws.partWritten s.r.physWptr (wordAddr p) } := by
    simp [State.putByte, State.storeMem, ht]
  unfold State.storeB
  rw [State.withAddr_write _ h, e, State.watchWrite_of]
  exact hw

/-! ## The accesses of the machine's own mechanisms -/

/-- What ordinary memory is. -/
theorem State.Plain.parts {s : State} {a : Word} (h : s.Plain a) :
    s.outOfBounds a = false ∧ s.legal false false a = true ∧ s.legal false true a = true ∧ s.keeps a = true := by
  have t : s.outOfBounds a = false ∧ s.decoded false false a = true ∧ s.decoded false true a = true ∧ s.keeps a = true := by
    simpa [State.Plain, State.ordinary, and_assoc] using h
  exact ⟨t.1, by simp [State.legal, t.2.1], by simp [State.legal, t.2.2.1], t.2.2.2⟩

/-- Ordinary memory is in no virtual link control block. -/
theorem State.Plain.inVlcb {s : State} {a : Word} (h : s.Plain a) : s.inVlcb a = false := by
  have t := h.parts.1
  simp only [State.outOfBounds, Bool.or_eq_false_iff] at t
  exact t.1

/-- Ordinary memory takes every store. -/
theorem State.Plain.takes {s : State} {a : Word} (h : s.Plain a) (dev : Bool) : s.takes dev a = true :=
  s.takes_of_keeps dev a h.parts.2.2.2

/-- A mechanism's access to memory that can be reached: a read that misses the cache fetches a block. -/
theorem State.touch_of (s : State) (wr : Bool) (a : Word) (h : s.legal false wr a = true) : s.touch wr a = s.reach wr a := by
  simp [State.touch, State.noteIf, h]

/-- An agent's access to memory that can be reached. -/
theorem State.agentTouch_of (s : State) (wr : Bool) (a : Word) (h : s.legal false wr a = true) :
    s.agentTouch wr a = s.reach wr a := by
  simp [State.agentTouch, State.noteIf, h]

@[simp] theorem State.reach_write (s : State) (a : Word) : s.reach true a = s := rfl

@[simp] theorem State.reach_read (s : State) (a : Word) : s.reach false a = s.readMiss a := rfl

/-! ## Read misses (20_memory.md R106) -/

theorem ReadMisses.refl (s : State) : ReadMisses s s := ⟨[], by simp, by simp⟩

theorem ReadMisses.trans {s t u : State} (h : ReadMisses s t) (g : ReadMisses t u) : ReadMisses s u := by
  obtain ⟨ls, rfl, h⟩ := h
  obtain ⟨ms, rfl, g⟩ := g
  refine ⟨ls ++ ms, by simp, fun l hl => ?_⟩
  rcases List.mem_append.mp hl with x | x
  · exact h l x
  · exact g l x

/-- All that a read does to the cache. -/
theorem State.readMiss_readMisses (s : State) (a : Word) : ReadMisses s (s.readMiss a) := by
  unfold State.readMiss
  split
  · rename_i h
    refine ⟨[⟨none, blockOf a, .all false, s.mem.block (blockOf a)⟩], rfl, fun l hl => ?_⟩
    rw [List.mem_singleton.mp hl]
    exact ⟨rfl, a, rfl, by simp_all⟩
  · exact ReadMisses.refl s

theorem State.loadMiss_readMisses (s : State) (dev : Bool) (a : Word) : ReadMisses s (s.loadMiss dev a) := by
  unfold State.loadMiss
  split
  · exact ReadMisses.refl s
  · exact s.readMiss_readMisses a

/-- All that fetching an instruction does to the cache. -/
theorem State.fetchMisses_readMisses (n : Nat) (s : State) (a : Word) : ReadMisses s (s.fetchMisses a n) := by
  induction n generalizing s a with
  | zero => exact ReadMisses.refl s
  | succ n ih => exact ReadMisses.trans (s.readMiss_readMisses (s.r.place false .fetch a)) (ih _ _)

/-- A read that misses nothing leaves the state alone. -/
theorem State.readMiss_of (s : State) (a : Word) (h : s.fetchable a = false ∨ s.cache.holds (blockOf a) = true) :
    s.readMiss a = s := by
  rcases h with h | h <;> simp [State.readMiss, h]

theorem State.mput_of (s : State) (a v : Word) (h : s.Plain a) : s.mput a v = { s with
    mem := s.mem.writeWord a v, cache := s.cacheStore false a fun m => m.writeWord a v, prefetch := s.prefetchWrite a
    ws := s.ws.wordWritten s.r.physWptr a } := by
  unfold State.mput
  rw [State.touch_of s true a h.parts.2.2.1, State.reach_write, State.putWord_eq s false a v (h.takes false)]

theorem State.iput_of (s : State) (a v : Word) (h : s.Plain a) (hw : s.watches a = false) : s.iput a v = { s with
    mem := s.mem.writeWord a v, cache := s.cacheStore false a fun m => m.writeWord a v, prefetch := s.prefetchWrite a
    ws := s.ws.wordWritten s.r.physWptr a } := by
  unfold State.iput
  have h1 : s.noteIf (s.inVlcb a) (.refuse .vlcbMemory) = s := by simp [State.noteIf, h.inVlcb]
  rw [h1, State.mput_of s a v h, State.watchWrite_of]
  exact hw

/-! ## The numbers of cache lines (20_memory.md R105) -/

/-- A condition that another implies, and that fails of a member of the list where the other holds, counts fewer. -/
theorem countP_lt {α : Type} (p q : α → Bool) (a : α) (h : ∀ b, p b = true → q b = true) (hq : q a = true)
    (hp : p a = false) : (l : List α) → a ∈ l → l.countP p < l.countP q
  | b :: l, ha => by
    have le : l.countP p ≤ l.countP q := List.countP_mono_left fun x _ => h x
    rw [List.countP_cons, List.countP_cons]
    rcases List.mem_cons.mp ha with rfl | ha
    · simp [hq, hp]
      omega
    · have := countP_lt p q a h hq hp l ha
      have hb : (if p b then 1 else 0) ≤ (if q b then 1 else 0) := by
        split
        · exact Nat.le_of_eq (if_pos (h b ‹_›)).symm
        · exact Nat.zero_le _
      omega

/-- The number of a line tells its half of the cache and its place in that half's order. -/
theorem lineNumber_lt {x y b : Nat} (hx : x / 512 = b) (hy : y / 512 = b)
    (h : Config.linePlace x < Config.linePlace y ∨ (Config.linePlace x = Config.linePlace y ∧ x < y)) :
    ((List.range 512).countP fun i => Config.linePlace (512 * b + i) < Config.linePlace x ||
      (Config.linePlace (512 * b + i) == Config.linePlace x && decide (512 * b + i < x))) <
    ((List.range 512).countP fun i => Config.linePlace (512 * b + i) < Config.linePlace y ||
      (Config.linePlace (512 * b + i) == Config.linePlace y && decide (512 * b + i < y))) := by
  have e : 512 * b + x % 512 = x := by omega
  refine countP_lt _ _ (x % 512) (fun i hi => ?_) ?_ ?_ _ (List.mem_range.mpr (by omega))
  · simp only [Bool.or_eq_true, Bool.and_eq_true, decide_eq_true_eq, beq_iff_eq] at hi ⊢
    omega
  · simp only [e, Bool.or_eq_true, Bool.and_eq_true, decide_eq_true_eq, beq_iff_eq]
    omega
  · simp only [e]
    simp

/-- No two lines of the cache have one number (20_memory.md R105; log 11). -/
theorem lineNumber_inj {r c k j : Nat} (hk : k < 4) (hj : j < 4) (h : lineNumber r k = lineNumber c j) : r = c ∧ k = j := by
  have place : ∀ a m : Nat, m < 4 → (4 * a + m) / 512 = a / 128 := by omega
  have bound : ∀ a m : Nat, m < 4 → lineNumber a m < 512 * (a / 128) + 512 := by
    intro a m hm
    have : (List.range 512).countP (fun i => Config.linePlace (512 * (a / 128) + i) < Config.linePlace (4 * a + m) ||
        (Config.linePlace (512 * (a / 128) + i) == Config.linePlace (4 * a + m) &&
          decide (512 * (a / 128) + i < 4 * a + m))) < (List.range 512).countP fun _ => true := by
      refine countP_lt _ _ ((4 * a + m) % 512) (by simp) rfl ?_ _ (List.mem_range.mpr (by omega))
      have e : 512 * (a / 128) + (4 * a + m) % 512 = 4 * a + m := by omega
      simp only [e]
      simp
    have t : (List.range 512).countP (fun _ => true) = 512 := by simp
    dsimp only [lineNumber]
    omega
  have base : ∀ a m : Nat, 512 * (a / 128) ≤ lineNumber a m := fun a m => Nat.le_add_right _ _
  have half : r / 128 = c / 128 := by
    have := bound r k hk
    have := bound c j hj
    have := base r k
    have := base c j
    omega
  have key : 4 * r + k = 4 * c + j := by
    have px := place r k hk
    have py := place c j hj
    rw [← half] at py
    dsimp only [lineNumber] at h
    rw [← half] at h
    rcases Nat.lt_trichotomy (Config.linePlace (4 * r + k)) (Config.linePlace (4 * c + j)) with l | l | l
    · have := lineNumber_lt px py (.inl l)
      omega
    · rcases Nat.lt_trichotomy (4 * r + k) (4 * c + j) with m | m | m
      · have := lineNumber_lt px py (.inr ⟨l, m⟩)
        omega
      · exact m
      · have := lineNumber_lt py px (.inr ⟨l.symm, m⟩)
        omega
    · have := lineNumber_lt py px (.inl l)
      omega
  omega

/-! ## Traps -/

/-- An error of a plain state is the ordinary error trap. -/
theorem State.errTrap_of (s : State) (et : Word) (h : s.cpuMode = .whole) :
    s.errTrap et = (s.takeTrap .error (trapReason s.r.step .error (s.r.isP && s.r.watch)) et).done := by
  simp [State.errTrap, h]

/-- A trap with the null handler halts the processor (60_exceptions.md R716). -/
theorem State.takeTrap_null (s : State) (sv : Saves) (reason et : Word) (hp : s.r.isP = false)
    (ht : s.r.th = notProcess) : s.takeTrap sv reason et = s.halt reason et 0x01#8 := by
  simp [State.takeTrap, hp, ht]

/-- A trap of an L-process with a handler. -/
theorem State.takeTrap_L (s : State) (sv : Saves) (reason et : Word) (hp : s.r.isP = false)
    (ht : s.r.th ≠ notProcess) : s.takeTrap sv reason et = s.trapL sv reason et := by
  simp [State.takeTrap, hp, ht]

/-- A trap of a P-process. -/
theorem State.takeTrap_P (s : State) (sv : Saves) (reason et : Word) (hp : s.r.isP = true) :
    s.takeTrap sv reason et = s.trapP sv reason et := by
  simp [State.takeTrap, hp]

/-! ## The VCP's queues -/

@[simp] theorem Quad.get_map {α : Type} (q : Quad α) (f : α → α) (n : Nat) : (q.map f).get n = f (q.get n) := by
  unfold Quad.get Quad.map
  split <;> rfl

/-- A virtual link taken off the queues is on none of those named, and nothing else changes. -/
theorem State.unqueue_cases (s : State) (k : Nat) (data acks : Bool) :
    (∀ n : Nat, (s.unqueue k data acks).queues n = (s.queues n).unqueue k data acks) ∧
    s.unqueue k data acks = { s with vcp := { s.vcp with links := (s.unqueue k data acks).vcp.links } } :=
  ⟨fun n => Quad.get_map s.vcp.links _ n, rfl⟩

/-! ## The agents -/

/-- All that an error signalled to the VCP does (47_vcp_config.md R643). -/
theorem State.discarding_cases (s : State) : s.discarding = { s with vcp := { s.vcp with mode := s.discarding.vcp.mode } } ∧
    (s.vcp.mode = .resetting → s.discarding.vcp.mode = .resetting) ∧
    (s.vcp.mode ≠ .resetting → s.discarding.vcp.mode = .discarding) :=
  ⟨rfl, fun h => by simp [State.discarding, h], fun h => by simp [State.discarding, h]⟩

/-- A timer agent takes one process off its list, or does nothing (42_process_sched.md R356). -/
theorem State.serveTimer_cases (s : State) (low : Bool) :
    (s.timerDue low = true → s.serveTimer low = s.timerExpire low) ∧ (s.timerDue low = false → s.serveTimer low = s) :=
  ⟨fun h => by simp [State.serveTimer, h], fun h => by simp [State.serveTimer, h]⟩

/-- What becomes of the oldest packet on a byte-stream link (43_channels_alt.md R387). -/
theorem State.acceptByte_cases (s : State) (n : Nat) (p : Packet) (rest : List Packet) :
    let t := s.setQueues n { s.queues n with arrived := rest }
    (p.isAck = true → s.acceptByte n p rest = t.byteAcknowledged n) ∧
    (∀ b : ByteComm, p.isAck = false → (s.queues n).byteIn = some b → s.acceptByte n p rest = t.byteData n b p) ∧
    (p.isAck = false → (s.queues n).byteIn = none → s.acceptByte n p rest = s.byteStalled n p rest) :=
  ⟨fun h => by simp [State.acceptByte, h], fun b h g => by simp [State.acceptByte, h, g],
    fun h g => by simp [State.acceptByte, h, g]⟩

/-- The status of a process with a trap-handler goes to th.Cntl, whose sb.ThInUse stays (42_process_sched.md R326). -/
theorem State.saveStatus_of (s : State) (h : s.r.th ≠ notProcess) : s.saveStatus =
    let t := s.mput s.r.th (controlWord s.r.status (s.drawn 0) ||| (s.wordAt s.r.th &&& thInUse))
    { t with draws := t.draws + 1 } := by
  simp [State.saveStatus, h]

end Sys2Proof.Machine
end

