-- ==== Sys2Proof/Laws/PerInstr.lean ====
section
/-! SUPPORT. Laws/PerInstr: statements made of every instruction, one lemma for each constructor. -/

namespace Sys2Proof.Laws.EncodingLength

open Sys2Proof

/-- An instruction is 1 to 8 bytes long (30_encoding.md R141). -/
def Statement (i : Instr) : Prop := 1 ≤ (encode i).length ∧ (encode i).length ≤ 8

theorem encodeNat_length (fuel fn e : Nat) :
    1 ≤ (encodeNat fuel fn e).length ∧ (encodeNat fuel fn e).length ≤ fuel + 1 := by
  induction fuel generalizing fn e with
  | zero => exact ⟨Nat.le_refl 1, Nat.le_refl 1⟩
  | succ k ih =>
    simp only [encodeNat]
    split
    · exact ⟨Nat.le_refl 1, by simp⟩
    · have h := ih 2 (e / 16)
      simp only [List.length_append, List.length_cons, List.length_nil]
      omega

theorem encodeFn_length (fn : Nat) (e : Word) : 1 ≤ (encodeFn fn e).length ∧ (encodeFn fn e).length ≤ 8 := by
  unfold encodeFn
  split
  · have h := encodeNat_length 6 6 ((~~~ e).toNat / 16)
    simp only [List.length_append, List.length_cons, List.length_nil]
    omega
  · exact encodeNat_length 7 fn e.toNat

theorem j (n : Word) : Statement (.j n) := encodeFn_length _ _
theorem ldlp (n : Word) : Statement (.ldlp n) := encodeFn_length _ _
theorem pfix (d : BitVec 4) : Statement (.pfix d) := ⟨Nat.le_refl 1, by simp [encode]⟩
theorem ldnl (n : Word) : Statement (.ldnl n) := encodeFn_length _ _
theorem ldc (n : Word) : Statement (.ldc n) := encodeFn_length _ _
theorem ldnlp (n : Word) : Statement (.ldnlp n) := encodeFn_length _ _
theorem nfix (d : BitVec 4) : Statement (.nfix d) := ⟨Nat.le_refl 1, by simp [encode]⟩
theorem ldl (n : Word) : Statement (.ldl n) := encodeFn_length _ _
theorem adc (n : Word) : Statement (.adc n) := encodeFn_length _ _
theorem call (n : Word) : Statement (.call n) := encodeFn_length _ _
theorem cj (n : Word) : Statement (.cj n) := encodeFn_length _ _
theorem ajw (n : Word) : Statement (.ajw n) := encodeFn_length _ _
theorem eqc (n : Word) : Statement (.eqc n) := encodeFn_length _ _
theorem stl (n : Word) : Statement (.stl n) := encodeFn_length _ _
theorem stnl (n : Word) : Statement (.stnl n) := encodeFn_length _ _
theorem opr (code : Word) : Statement (.opr code) := encodeFn_length _ _
theorem ldprodid : Statement .ldprodid := encodeFn_length _ _
theorem nop : Statement .nop := encodeFn_length _ _
theorem fdca : Statement .fdca := encodeFn_length _ _
theorem ica : Statement .ica := encodeFn_length _ _
theorem fdcl : Statement .fdcl := encodeFn_length _ _
theorem icl : Statement .icl := encodeFn_length _ _
theorem devmove : Statement .devmove := encodeFn_length _ _
theorem ldresptr : Statement .ldresptr := encodeFn_length _ _
theorem stresptr : Statement .stresptr := encodeFn_length _ _
theorem erdsq : Statement .erdsq := encodeFn_length _ _
theorem irdsq : Statement .irdsq := encodeFn_length _ _
theorem mkrc : Statement .mkrc := encodeFn_length _ _
theorem unmkrc : Statement .unmkrc := encodeFn_length _ _
theorem restart : Statement .restart := encodeFn_length _ _
theorem causeerror : Statement .causeerror := encodeFn_length _ _
theorem stmove2dinit : Statement .stmove2dinit := encodeFn_length _ _
theorem grant : Statement .grant := encodeFn_length _ _
theorem enbg : Statement .enbg := encodeFn_length _ _
theorem disg : Statement .disg := encodeFn_length _ _
theorem readhdr : Statement .readhdr := encodeFn_length _ _
theorem writehdr : Statement .writehdr := encodeFn_length _ _
theorem initvlcb : Statement .initvlcb := encodeFn_length _ _
theorem setchmode : Statement .setchmode := encodeFn_length _ _
theorem sethdr : Statement .sethdr := encodeFn_length _ _
theorem swapbfr : Statement .swapbfr := encodeFn_length _ _
theorem vin : Statement .vin := encodeFn_length _ _
theorem vout : Statement .vout := encodeFn_length _ _
theorem stopch : Statement .stopch := encodeFn_length _ _
theorem swapqueue : Statement .swapqueue := encodeFn_length _ _
theorem swaptimer : Statement .swaptimer := encodeFn_length _ _
theorem insertqueue : Statement .insertqueue := encodeFn_length _ _
theorem timeslice : Statement .timeslice := encodeFn_length _ _
theorem signal : Statement .signal := encodeFn_length _ _
theorem wait : Statement .wait := encodeFn_length _ _
theorem syscall : Statement .syscall := encodeFn_length _ _
theorem selth : Statement .selth := encodeFn_length _ _
theorem goprot : Statement .goprot := encodeFn_length _ _
theorem tret : Statement .tret := encodeFn_length _ _
theorem ldshadow : Statement .ldshadow := encodeFn_length _ _
theorem stshadow : Statement .stshadow := encodeFn_length _ _
theorem fpldall : Statement .fpldall := encodeFn_length _ _
theorem fpstall : Statement .fpstall := encodeFn_length _ _
theorem rev : Statement .rev := encodeFn_length _ _
theorem lb : Statement .lb := encodeFn_length _ _
theorem bsub : Statement .bsub := encodeFn_length _ _
theorem endp : Statement .endp := encodeFn_length _ _
theorem diff : Statement .diff := encodeFn_length _ _
theorem add : Statement .add := encodeFn_length _ _
theorem gcall : Statement .gcall := encodeFn_length _ _
theorem input : Statement .input := encodeFn_length _ _
theorem prod : Statement .prod := encodeFn_length _ _
theorem gt : Statement .gt := encodeFn_length _ _
theorem wsub : Statement .wsub := encodeFn_length _ _
theorem output : Statement .output := encodeFn_length _ _
theorem sub : Statement .sub := encodeFn_length _ _
theorem startp : Statement .startp := encodeFn_length _ _
theorem outbyte : Statement .outbyte := encodeFn_length _ _
theorem outword : Statement .outword := encodeFn_length _ _
theorem resetch : Statement .resetch := encodeFn_length _ _
theorem csub0 : Statement .csub0 := encodeFn_length _ _
theorem stopp : Statement .stopp := encodeFn_length _ _
theorem ladd : Statement .ladd := encodeFn_length _ _
theorem norm : Statement .norm := encodeFn_length _ _
theorem ldiv : Statement .ldiv := encodeFn_length _ _
theorem ldpi : Statement .ldpi := encodeFn_length _ _
theorem xdble : Statement .xdble := encodeFn_length _ _
theorem ldpri : Statement .ldpri := encodeFn_length _ _
theorem rem : Statement .rem := encodeFn_length _ _
theorem ret : Statement .ret := encodeFn_length _ _
theorem lend : Statement .lend := encodeFn_length _ _
theorem ldtimer : Statement .ldtimer := encodeFn_length _ _
theorem testpranal : Statement .testpranal := encodeFn_length _ _
theorem tin : Statement .tin := encodeFn_length _ _
theorem div : Statement .div := encodeFn_length _ _
theorem dist : Statement .dist := encodeFn_length _ _
theorem disc : Statement .disc := encodeFn_length _ _
theorem diss : Statement .diss := encodeFn_length _ _
theorem lmul : Statement .lmul := encodeFn_length _ _
theorem not : Statement .not := encodeFn_length _ _
theorem xor : Statement .xor := encodeFn_length _ _
theorem bcnt : Statement .bcnt := encodeFn_length _ _
theorem lshr : Statement .lshr := encodeFn_length _ _
theorem lshl : Statement .lshl := encodeFn_length _ _
theorem lsum : Statement .lsum := encodeFn_length _ _
theorem lsub : Statement .lsub := encodeFn_length _ _
theorem runp : Statement .runp := encodeFn_length _ _
theorem xword : Statement .xword := encodeFn_length _ _
theorem sb : Statement .sb := encodeFn_length _ _
theorem gajw : Statement .gajw := encodeFn_length _ _
theorem wcnt : Statement .wcnt := encodeFn_length _ _
theorem shr : Statement .shr := encodeFn_length _ _
theorem shl : Statement .shl := encodeFn_length _ _
theorem mint : Statement .mint := encodeFn_length _ _
theorem alt : Statement .alt := encodeFn_length _ _
theorem altwt : Statement .altwt := encodeFn_length _ _
theorem altend : Statement .altend := encodeFn_length _ _
theorem and : Statement .and := encodeFn_length _ _
theorem enbt : Statement .enbt := encodeFn_length _ _
theorem enbc : Statement .enbc := encodeFn_length _ _
theorem enbs : Statement .enbs := encodeFn_length _ _
theorem move : Statement .move := encodeFn_length _ _
theorem or : Statement .or := encodeFn_length _ _
theorem csngl : Statement .csngl := encodeFn_length _ _
theorem ccnt1 : Statement .ccnt1 := encodeFn_length _ _
theorem talt : Statement .talt := encodeFn_length _ _
theorem ldiff : Statement .ldiff := encodeFn_length _ _
theorem taltwt : Statement .taltwt := encodeFn_length _ _
theorem sum : Statement .sum := encodeFn_length _ _
theorem mul : Statement .mul := encodeFn_length _ _
theorem sttimer : Statement .sttimer := encodeFn_length _ _
theorem cword : Statement .cword := encodeFn_length _ _
theorem dup : Statement .dup := encodeFn_length _ _
theorem move2dinit : Statement .move2dinit := encodeFn_length _ _
theorem move2dall : Statement .move2dall := encodeFn_length _ _
theorem move2dnonzero : Statement .move2dnonzero := encodeFn_length _ _
theorem move2dzero : Statement .move2dzero := encodeFn_length _ _
theorem gtu : Statement .gtu := encodeFn_length _ _
theorem fmul : Statement .fmul := encodeFn_length _ _
theorem crcword : Statement .crcword := encodeFn_length _ _
theorem crcbyte : Statement .crcbyte := encodeFn_length _ _
theorem bitcnt : Statement .bitcnt := encodeFn_length _ _
theorem bitrevword : Statement .bitrevword := encodeFn_length _ _
theorem bitrevnbits : Statement .bitrevnbits := encodeFn_length _ _
theorem pop : Statement .pop := encodeFn_length _ _
theorem ldmemstartval : Statement .ldmemstartval := encodeFn_length _ _
theorem wsubdb : Statement .wsubdb := encodeFn_length _ _
theorem fpldnldbi : Statement .fpldnldbi := encodeFn_length _ _
theorem fpstnldb : Statement .fpstnldb := encodeFn_length _ _
theorem fpldnlsni : Statement .fpldnlsni := encodeFn_length _ _
theorem fpadd : Statement .fpadd := encodeFn_length _ _
theorem fpstnlsn : Statement .fpstnlsn := encodeFn_length _ _
theorem fpsub : Statement .fpsub := encodeFn_length _ _
theorem fpldnldb : Statement .fpldnldb := encodeFn_length _ _
theorem fpmul : Statement .fpmul := encodeFn_length _ _
theorem fpdiv : Statement .fpdiv := encodeFn_length _ _
theorem fprange : Statement .fprange := encodeFn_length _ _
theorem fpldnlsn : Statement .fpldnlsn := encodeFn_length _ _
theorem fpnan : Statement .fpnan := encodeFn_length _ _
theorem fpordered : Statement .fpordered := encodeFn_length _ _
theorem fpnotfinite : Statement .fpnotfinite := encodeFn_length _ _
theorem fpgt : Statement .fpgt := encodeFn_length _ _
theorem fpeq : Statement .fpeq := encodeFn_length _ _
theorem fpi32tor32 : Statement .fpi32tor32 := encodeFn_length _ _
theorem fpge : Statement .fpge := encodeFn_length _ _
theorem fpi32tor64 : Statement .fpi32tor64 := encodeFn_length _ _
theorem fpb32tor64 : Statement .fpb32tor64 := encodeFn_length _ _
theorem fplg : Statement .fplg := encodeFn_length _ _
theorem fprtoi32 : Statement .fprtoi32 := encodeFn_length _ _
theorem fpstnli32 : Statement .fpstnli32 := encodeFn_length _ _
theorem fpldzerosn : Statement .fpldzerosn := encodeFn_length _ _
theorem fpldzerodb : Statement .fpldzerodb := encodeFn_length _ _
theorem fpint : Statement .fpint := encodeFn_length _ _
theorem fpdup : Statement .fpdup := encodeFn_length _ _
theorem fprev : Statement .fprev := encodeFn_length _ _
theorem fpldnladddb : Statement .fpldnladddb := encodeFn_length _ _
theorem fpldnlmuldb : Statement .fpldnlmuldb := encodeFn_length _ _
theorem fpldnladdsn : Statement .fpldnladdsn := encodeFn_length _ _
theorem fpldnlmulsn : Statement .fpldnlmulsn := encodeFn_length _ _
theorem settimeslice : Statement .settimeslice := encodeFn_length _ _
theorem ldflags : Statement .ldflags := encodeFn_length _ _
theorem stflags : Statement .stflags := encodeFn_length _ _
theorem xbword : Statement .xbword := encodeFn_length _ _
theorem lbx : Statement .lbx := encodeFn_length _ _
theorem cb : Statement .cb := encodeFn_length _ _
theorem cbu : Statement .cbu := encodeFn_length _ _
theorem insphdr : Statement .insphdr := encodeFn_length _ _
theorem readbfr : Statement .readbfr := encodeFn_length _ _
theorem ldconf : Statement .ldconf := encodeFn_length _ _
theorem stconf : Statement .stconf := encodeFn_length _ _
theorem ldcnt : Statement .ldcnt := encodeFn_length _ _
theorem ssub : Statement .ssub := encodeFn_length _ _
theorem ldth : Statement .ldth := encodeFn_length _ _
theorem ldchstatus : Statement .ldchstatus := encodeFn_length _ _
theorem intdis : Statement .intdis := encodeFn_length _ _
theorem intenb : Statement .intenb := encodeFn_length _ _
theorem cir : Statement .cir := encodeFn_length _ _
theorem ss : Statement .ss := encodeFn_length _ _
theorem chantype : Statement .chantype := encodeFn_length _ _
theorem ls : Statement .ls := encodeFn_length _ _
theorem ciru : Statement .ciru := encodeFn_length _ _
theorem fprem : Statement .fprem := encodeFn_length _ _
theorem fprn : Statement .fprn := encodeFn_length _ _
theorem fpdivby2 : Statement .fpdivby2 := encodeFn_length _ _
theorem fpmulby2 : Statement .fpmulby2 := encodeFn_length _ _
theorem fpsqrt : Statement .fpsqrt := encodeFn_length _ _
theorem fprp : Statement .fprp := encodeFn_length _ _
theorem fprm : Statement .fprm := encodeFn_length _ _
theorem fprz : Statement .fprz := encodeFn_length _ _
theorem fpr32tor64 : Statement .fpr32tor64 := encodeFn_length _ _
theorem fpr64tor32 : Statement .fpr64tor32 := encodeFn_length _ _
theorem fpexpdec32 : Statement .fpexpdec32 := encodeFn_length _ _
theorem fpexpinc32 : Statement .fpexpinc32 := encodeFn_length _ _
theorem fpabs : Statement .fpabs := encodeFn_length _ _
theorem fpadddbsn : Statement .fpadddbsn := encodeFn_length _ _
theorem fpchki32 : Statement .fpchki32 := encodeFn_length _ _
theorem fpchki64 : Statement .fpchki64 := encodeFn_length _ _
theorem devlb : Statement .devlb := encodeFn_length _ _
theorem devsb : Statement .devsb := encodeFn_length _ _
theorem devls : Statement .devls := encodeFn_length _ _
theorem devss : Statement .devss := encodeFn_length _ _
theorem devlw : Statement .devlw := encodeFn_length _ _
theorem devsw : Statement .devsw := encodeFn_length _ _
theorem xsword : Statement .xsword := encodeFn_length _ _
theorem lsx : Statement .lsx := encodeFn_length _ _
theorem cs : Statement .cs := encodeFn_length _ _
theorem csu : Statement .csu := encodeFn_length _ _
theorem lddevid : Statement .lddevid := encodeFn_length _ _

end Sys2Proof.Laws.EncodingLength
end

