-- ==== Sys2Proof/Laws/Writes.lean ====
section
/-! SUPPORT. Laws/Writes: what a write to memory leaves alone, one lemma for each field, and what it makes of the words
of memory. -/

namespace Sys2Proof.Machine

/-! ## The fields a write leaves alone -/

@[simp] theorem State.storeMem_r (s : State) (dev : Bool) (a : Word) (f : Memory → Memory) : (s.storeMem dev a f).r = s.r := by
  unfold State.storeMem
  split <;> rfl
@[simp] theorem State.storeMem_ws (s : State) (dev : Bool) (a : Word) (f : Memory → Memory) : (s.storeMem dev a f).ws = s.ws := by
  unfold State.storeMem
  split <;> rfl
@[simp] theorem State.storeMem_trouble (s : State) (dev : Bool) (a : Word) (f : Memory → Memory) : (s.storeMem dev a f).trouble = s.trouble := by
  unfold State.storeMem
  split <;> rfl
@[simp] theorem State.storeMem_sh (s : State) (dev : Bool) (a : Word) (f : Memory → Memory) : (s.storeMem dev a f).sh = s.sh := by
  unfold State.storeMem
  split <;> rfl
@[simp] theorem State.storeMem_shadowValid (s : State) (dev : Bool) (a : Word) (f : Memory → Memory) : (s.storeMem dev a f).shadowValid = s.shadowValid := by
  unfold State.storeMem
  split <;> rfl
@[simp] theorem State.storeMem_oreg (s : State) (dev : Bool) (a : Word) (f : Memory → Memory) : (s.storeMem dev a f).oreg = s.oreg := by
  unfold State.storeMem
  split <;> rfl
@[simp] theorem State.storeMem_inChain (s : State) (dev : Bool) (a : Word) (f : Memory → Memory) : (s.storeMem dev a f).inChain = s.inChain := by
  unfold State.storeMem
  split <;> rfl
@[simp] theorem State.storeMem_hi (s : State) (dev : Bool) (a : Word) (f : Memory → Memory) : (s.storeMem dev a f).hi = s.hi := by
  unfold State.storeMem
  split <;> rfl
@[simp] theorem State.storeMem_lo (s : State) (dev : Bool) (a : Word) (f : Memory → Memory) : (s.storeMem dev a f).lo = s.lo := by
  unfold State.storeMem
  split <;> rfl
@[simp] theorem State.storeMem_clockRunning (s : State) (dev : Bool) (a : Word) (f : Memory → Memory) : (s.storeMem dev a f).clockRunning = s.clockRunning := by
  unfold State.storeMem
  split <;> rfl
@[simp] theorem State.storeMem_tickPhase (s : State) (dev : Bool) (a : Word) (f : Memory → Memory) : (s.storeMem dev a f).tickPhase = s.tickPhase := by
  unfold State.storeMem
  split <;> rfl
@[simp] theorem State.storeMem_tsCount (s : State) (dev : Bool) (a : Word) (f : Memory → Memory) : (s.storeMem dev a f).tsCount = s.tsCount := by
  unfold State.storeMem
  split <;> rfl
@[simp] theorem State.storeMem_intEnabled (s : State) (dev : Bool) (a : Word) (f : Memory → Memory) : (s.storeMem dev a f).intEnabled = s.intEnabled := by
  unfold State.storeMem
  split <;> rfl
@[simp] theorem State.storeMem_conf (s : State) (dev : Bool) (a : Word) (f : Memory → Memory) : (s.storeMem dev a f).conf = s.conf := by
  unfold State.storeMem
  split <;> rfl
@[simp] theorem State.storeMem_links (s : State) (dev : Bool) (a : Word) (f : Memory → Memory) : (s.storeMem dev a f).links = s.links := by
  unfold State.storeMem
  split <;> rfl
@[simp] theorem State.storeMem_clink0 (s : State) (dev : Bool) (a : Word) (f : Memory → Memory) : (s.storeMem dev a f).clink0 = s.clink0 := by
  unfold State.storeMem
  split <;> rfl
@[simp] theorem State.storeMem_clink1 (s : State) (dev : Bool) (a : Word) (f : Memory → Memory) : (s.storeMem dev a f).clink1 = s.clink1 := by
  unfold State.storeMem
  split <;> rfl
@[simp] theorem State.storeMem_vcp (s : State) (dev : Bool) (a : Word) (f : Memory → Memory) : (s.storeMem dev a f).vcp = s.vcp := by
  unfold State.storeMem
  split <;> rfl
@[simp] theorem State.storeMem_events (s : State) (dev : Bool) (a : Word) (f : Memory → Memory) : (s.storeMem dev a f).events = s.events := by
  unfold State.storeMem
  split <;> rfl
@[simp] theorem State.storeMem_ctl (s : State) (dev : Bool) (a : Word) (f : Memory → Memory) : (s.storeMem dev a f).ctl = s.ctl := by
  unfold State.storeMem
  split <;> rfl
@[simp] theorem State.storeMem_agenda (s : State) (dev : Bool) (a : Word) (f : Memory → Memory) : (s.storeMem dev a f).agenda = s.agenda := by
  unfold State.storeMem
  split <;> rfl
@[simp] theorem State.storeMem_cpuMode (s : State) (dev : Bool) (a : Word) (f : Memory → Memory) : (s.storeMem dev a f).cpuMode = s.cpuMode := by
  unfold State.storeMem
  split <;> rfl
@[simp] theorem State.storeMem_resuming (s : State) (dev : Bool) (a : Word) (f : Memory → Memory) : (s.storeMem dev a f).resuming = s.resuming := by
  unfold State.storeMem
  split <;> rfl
@[simp] theorem State.storeMem_descheduled (s : State) (dev : Bool) (a : Word) (f : Memory → Memory) : (s.storeMem dev a f).descheduled = s.descheduled := by
  unfold State.storeMem
  split <;> rfl
@[simp] theorem State.storeMem_rcTails (s : State) (dev : Bool) (a : Word) (f : Memory → Memory) : (s.storeMem dev a f).rcTails = s.rcTails := by
  unfold State.storeMem
  split <;> rfl
@[simp] theorem State.storeMem_temps (s : State) (dev : Bool) (a : Word) (f : Memory → Memory) : (s.storeMem dev a f).temps = s.temps := by
  unfold State.storeMem
  split <;> rfl
@[simp] theorem State.storeMem_draws (s : State) (dev : Bool) (a : Word) (f : Memory → Memory) : (s.storeMem dev a f).draws = s.draws := by
  unfold State.storeMem
  split <;> rfl
@[simp] theorem State.storeMem_cache_ramSize (s : State) (dev : Bool) (a : Word) (f : Memory → Memory) : (s.storeMem dev a f).cache.ramSize = s.cache.ramSize := by
  unfold State.storeMem
  split
  · rw [State.cacheStore_eq]
  · rfl
@[simp] theorem State.storeMem_cache_locked (s : State) (dev : Bool) (a : Word) (f : Memory → Memory) : (s.storeMem dev a f).cache.locked = s.cache.locked := by
  unfold State.storeMem
  split
  · rw [State.cacheStore_eq]
  · rfl

@[simp] theorem State.putWord_trouble (s : State) (dev : Bool) (a v : Word) : (s.putWord dev a v).trouble = s.trouble := by
  unfold State.putWord
  simp
@[simp] theorem State.putWord_sh (s : State) (dev : Bool) (a v : Word) : (s.putWord dev a v).sh = s.sh := by
  unfold State.putWord
  simp
@[simp] theorem State.putWord_shadowValid (s : State) (dev : Bool) (a v : Word) : (s.putWord dev a v).shadowValid = s.shadowValid := by
  unfold State.putWord
  simp
@[simp] theorem State.putWord_oreg (s : State) (dev : Bool) (a v : Word) : (s.putWord dev a v).oreg = s.oreg := by
  unfold State.putWord
  simp
@[simp] theorem State.putWord_inChain (s : State) (dev : Bool) (a v : Word) : (s.putWord dev a v).inChain = s.inChain := by
  unfold State.putWord
  simp
@[simp] theorem State.putWord_hi (s : State) (dev : Bool) (a v : Word) : (s.putWord dev a v).hi = s.hi := by
  unfold State.putWord
  simp
@[simp] theorem State.putWord_lo (s : State) (dev : Bool) (a v : Word) : (s.putWord dev a v).lo = s.lo := by
  unfold State.putWord
  simp
@[simp] theorem State.putWord_clockRunning (s : State) (dev : Bool) (a v : Word) : (s.putWord dev a v).clockRunning = s.clockRunning := by
  unfold State.putWord
  simp
@[simp] theorem State.putWord_tickPhase (s : State) (dev : Bool) (a v : Word) : (s.putWord dev a v).tickPhase = s.tickPhase := by
  unfold State.putWord
  simp
@[simp] theorem State.putWord_tsCount (s : State) (dev : Bool) (a v : Word) : (s.putWord dev a v).tsCount = s.tsCount := by
  unfold State.putWord
  simp
@[simp] theorem State.putWord_intEnabled (s : State) (dev : Bool) (a v : Word) : (s.putWord dev a v).intEnabled = s.intEnabled := by
  unfold State.putWord
  simp
@[simp] theorem State.putWord_conf (s : State) (dev : Bool) (a v : Word) : (s.putWord dev a v).conf = s.conf := by
  unfold State.putWord
  simp
@[simp] theorem State.putWord_links (s : State) (dev : Bool) (a v : Word) : (s.putWord dev a v).links = s.links := by
  unfold State.putWord
  simp
@[simp] theorem State.putWord_clink0 (s : State) (dev : Bool) (a v : Word) : (s.putWord dev a v).clink0 = s.clink0 := by
  unfold State.putWord
  simp
@[simp] theorem State.putWord_clink1 (s : State) (dev : Bool) (a v : Word) : (s.putWord dev a v).clink1 = s.clink1 := by
  unfold State.putWord
  simp
@[simp] theorem State.putWord_vcp (s : State) (dev : Bool) (a v : Word) : (s.putWord dev a v).vcp = s.vcp := by
  unfold State.putWord
  simp
@[simp] theorem State.putWord_events (s : State) (dev : Bool) (a v : Word) : (s.putWord dev a v).events = s.events := by
  unfold State.putWord
  simp
@[simp] theorem State.putWord_ctl (s : State) (dev : Bool) (a v : Word) : (s.putWord dev a v).ctl = s.ctl := by
  unfold State.putWord
  simp
@[simp] theorem State.putWord_agenda (s : State) (dev : Bool) (a v : Word) : (s.putWord dev a v).agenda = s.agenda := by
  unfold State.putWord
  simp
@[simp] theorem State.putWord_cpuMode (s : State) (dev : Bool) (a v : Word) : (s.putWord dev a v).cpuMode = s.cpuMode := by
  unfold State.putWord
  simp
@[simp] theorem State.putWord_resuming (s : State) (dev : Bool) (a v : Word) : (s.putWord dev a v).resuming = s.resuming := by
  unfold State.putWord
  simp
@[simp] theorem State.putWord_descheduled (s : State) (dev : Bool) (a v : Word) : (s.putWord dev a v).descheduled = s.descheduled := by
  unfold State.putWord
  simp
@[simp] theorem State.putWord_rcTails (s : State) (dev : Bool) (a v : Word) : (s.putWord dev a v).rcTails = s.rcTails := by
  unfold State.putWord
  simp
@[simp] theorem State.putWord_temps (s : State) (dev : Bool) (a v : Word) : (s.putWord dev a v).temps = s.temps := by
  unfold State.putWord
  simp
@[simp] theorem State.putWord_draws (s : State) (dev : Bool) (a v : Word) : (s.putWord dev a v).draws = s.draws := by
  unfold State.putWord
  simp
@[simp] theorem State.putWord_cache_ramSize (s : State) (dev : Bool) (a v : Word) : (s.putWord dev a v).cache.ramSize = s.cache.ramSize := by
  unfold State.putWord
  simp
@[simp] theorem State.putWord_cache_locked (s : State) (dev : Bool) (a v : Word) : (s.putWord dev a v).cache.locked = s.cache.locked := by
  unfold State.putWord
  simp

@[simp] theorem State.putHalf_trouble (s : State) (dev : Bool) (a : Word) (v : Half) : (s.putHalf dev a v).trouble = s.trouble := by
  unfold State.putHalf
  simp
@[simp] theorem State.putHalf_sh (s : State) (dev : Bool) (a : Word) (v : Half) : (s.putHalf dev a v).sh = s.sh := by
  unfold State.putHalf
  simp
@[simp] theorem State.putHalf_shadowValid (s : State) (dev : Bool) (a : Word) (v : Half) : (s.putHalf dev a v).shadowValid = s.shadowValid := by
  unfold State.putHalf
  simp
@[simp] theorem State.putHalf_oreg (s : State) (dev : Bool) (a : Word) (v : Half) : (s.putHalf dev a v).oreg = s.oreg := by
  unfold State.putHalf
  simp
@[simp] theorem State.putHalf_inChain (s : State) (dev : Bool) (a : Word) (v : Half) : (s.putHalf dev a v).inChain = s.inChain := by
  unfold State.putHalf
  simp
@[simp] theorem State.putHalf_hi (s : State) (dev : Bool) (a : Word) (v : Half) : (s.putHalf dev a v).hi = s.hi := by
  unfold State.putHalf
  simp
@[simp] theorem State.putHalf_lo (s : State) (dev : Bool) (a : Word) (v : Half) : (s.putHalf dev a v).lo = s.lo := by
  unfold State.putHalf
  simp
@[simp] theorem State.putHalf_clockRunning (s : State) (dev : Bool) (a : Word) (v : Half) : (s.putHalf dev a v).clockRunning = s.clockRunning := by
  unfold State.putHalf
  simp
@[simp] theorem State.putHalf_tickPhase (s : State) (dev : Bool) (a : Word) (v : Half) : (s.putHalf dev a v).tickPhase = s.tickPhase := by
  unfold State.putHalf
  simp
@[simp] theorem State.putHalf_tsCount (s : State) (dev : Bool) (a : Word) (v : Half) : (s.putHalf dev a v).tsCount = s.tsCount := by
  unfold State.putHalf
  simp
@[simp] theorem State.putHalf_intEnabled (s : State) (dev : Bool) (a : Word) (v : Half) : (s.putHalf dev a v).intEnabled = s.intEnabled := by
  unfold State.putHalf
  simp
@[simp] theorem State.putHalf_conf (s : State) (dev : Bool) (a : Word) (v : Half) : (s.putHalf dev a v).conf = s.conf := by
  unfold State.putHalf
  simp
@[simp] theorem State.putHalf_links (s : State) (dev : Bool) (a : Word) (v : Half) : (s.putHalf dev a v).links = s.links := by
  unfold State.putHalf
  simp
@[simp] theorem State.putHalf_clink0 (s : State) (dev : Bool) (a : Word) (v : Half) : (s.putHalf dev a v).clink0 = s.clink0 := by
  unfold State.putHalf
  simp
@[simp] theorem State.putHalf_clink1 (s : State) (dev : Bool) (a : Word) (v : Half) : (s.putHalf dev a v).clink1 = s.clink1 := by
  unfold State.putHalf
  simp
@[simp] theorem State.putHalf_vcp (s : State) (dev : Bool) (a : Word) (v : Half) : (s.putHalf dev a v).vcp = s.vcp := by
  unfold State.putHalf
  simp
@[simp] theorem State.putHalf_events (s : State) (dev : Bool) (a : Word) (v : Half) : (s.putHalf dev a v).events = s.events := by
  unfold State.putHalf
  simp
@[simp] theorem State.putHalf_ctl (s : State) (dev : Bool) (a : Word) (v : Half) : (s.putHalf dev a v).ctl = s.ctl := by
  unfold State.putHalf
  simp
@[simp] theorem State.putHalf_agenda (s : State) (dev : Bool) (a : Word) (v : Half) : (s.putHalf dev a v).agenda = s.agenda := by
  unfold State.putHalf
  simp
@[simp] theorem State.putHalf_cpuMode (s : State) (dev : Bool) (a : Word) (v : Half) : (s.putHalf dev a v).cpuMode = s.cpuMode := by
  unfold State.putHalf
  simp
@[simp] theorem State.putHalf_resuming (s : State) (dev : Bool) (a : Word) (v : Half) : (s.putHalf dev a v).resuming = s.resuming := by
  unfold State.putHalf
  simp
@[simp] theorem State.putHalf_descheduled (s : State) (dev : Bool) (a : Word) (v : Half) : (s.putHalf dev a v).descheduled = s.descheduled := by
  unfold State.putHalf
  simp
@[simp] theorem State.putHalf_rcTails (s : State) (dev : Bool) (a : Word) (v : Half) : (s.putHalf dev a v).rcTails = s.rcTails := by
  unfold State.putHalf
  simp
@[simp] theorem State.putHalf_temps (s : State) (dev : Bool) (a : Word) (v : Half) : (s.putHalf dev a v).temps = s.temps := by
  unfold State.putHalf
  simp
@[simp] theorem State.putHalf_draws (s : State) (dev : Bool) (a : Word) (v : Half) : (s.putHalf dev a v).draws = s.draws := by
  unfold State.putHalf
  simp
@[simp] theorem State.putHalf_cache_ramSize (s : State) (dev : Bool) (a : Word) (v : Half) : (s.putHalf dev a v).cache.ramSize = s.cache.ramSize := by
  unfold State.putHalf
  simp
@[simp] theorem State.putHalf_cache_locked (s : State) (dev : Bool) (a : Word) (v : Half) : (s.putHalf dev a v).cache.locked = s.cache.locked := by
  unfold State.putHalf
  simp

@[simp] theorem State.putByte_trouble (s : State) (dev : Bool) (a : Word) (v : Byte) : (s.putByte dev a v).trouble = s.trouble := by
  unfold State.putByte
  simp
@[simp] theorem State.putByte_sh (s : State) (dev : Bool) (a : Word) (v : Byte) : (s.putByte dev a v).sh = s.sh := by
  unfold State.putByte
  simp
@[simp] theorem State.putByte_shadowValid (s : State) (dev : Bool) (a : Word) (v : Byte) : (s.putByte dev a v).shadowValid = s.shadowValid := by
  unfold State.putByte
  simp
@[simp] theorem State.putByte_oreg (s : State) (dev : Bool) (a : Word) (v : Byte) : (s.putByte dev a v).oreg = s.oreg := by
  unfold State.putByte
  simp
@[simp] theorem State.putByte_inChain (s : State) (dev : Bool) (a : Word) (v : Byte) : (s.putByte dev a v).inChain = s.inChain := by
  unfold State.putByte
  simp
@[simp] theorem State.putByte_hi (s : State) (dev : Bool) (a : Word) (v : Byte) : (s.putByte dev a v).hi = s.hi := by
  unfold State.putByte
  simp
@[simp] theorem State.putByte_lo (s : State) (dev : Bool) (a : Word) (v : Byte) : (s.putByte dev a v).lo = s.lo := by
  unfold State.putByte
  simp
@[simp] theorem State.putByte_clockRunning (s : State) (dev : Bool) (a : Word) (v : Byte) : (s.putByte dev a v).clockRunning = s.clockRunning := by
  unfold State.putByte
  simp
@[simp] theorem State.putByte_tickPhase (s : State) (dev : Bool) (a : Word) (v : Byte) : (s.putByte dev a v).tickPhase = s.tickPhase := by
  unfold State.putByte
  simp
@[simp] theorem State.putByte_tsCount (s : State) (dev : Bool) (a : Word) (v : Byte) : (s.putByte dev a v).tsCount = s.tsCount := by
  unfold State.putByte
  simp
@[simp] theorem State.putByte_intEnabled (s : State) (dev : Bool) (a : Word) (v : Byte) : (s.putByte dev a v).intEnabled = s.intEnabled := by
  unfold State.putByte
  simp
@[simp] theorem State.putByte_conf (s : State) (dev : Bool) (a : Word) (v : Byte) : (s.putByte dev a v).conf = s.conf := by
  unfold State.putByte
  simp
@[simp] theorem State.putByte_links (s : State) (dev : Bool) (a : Word) (v : Byte) : (s.putByte dev a v).links = s.links := by
  unfold State.putByte
  simp
@[simp] theorem State.putByte_clink0 (s : State) (dev : Bool) (a : Word) (v : Byte) : (s.putByte dev a v).clink0 = s.clink0 := by
  unfold State.putByte
  simp
@[simp] theorem State.putByte_clink1 (s : State) (dev : Bool) (a : Word) (v : Byte) : (s.putByte dev a v).clink1 = s.clink1 := by
  unfold State.putByte
  simp
@[simp] theorem State.putByte_vcp (s : State) (dev : Bool) (a : Word) (v : Byte) : (s.putByte dev a v).vcp = s.vcp := by
  unfold State.putByte
  simp
@[simp] theorem State.putByte_events (s : State) (dev : Bool) (a : Word) (v : Byte) : (s.putByte dev a v).events = s.events := by
  unfold State.putByte
  simp
@[simp] theorem State.putByte_ctl (s : State) (dev : Bool) (a : Word) (v : Byte) : (s.putByte dev a v).ctl = s.ctl := by
  unfold State.putByte
  simp
@[simp] theorem State.putByte_agenda (s : State) (dev : Bool) (a : Word) (v : Byte) : (s.putByte dev a v).agenda = s.agenda := by
  unfold State.putByte
  simp
@[simp] theorem State.putByte_cpuMode (s : State) (dev : Bool) (a : Word) (v : Byte) : (s.putByte dev a v).cpuMode = s.cpuMode := by
  unfold State.putByte
  simp
@[simp] theorem State.putByte_resuming (s : State) (dev : Bool) (a : Word) (v : Byte) : (s.putByte dev a v).resuming = s.resuming := by
  unfold State.putByte
  simp
@[simp] theorem State.putByte_descheduled (s : State) (dev : Bool) (a : Word) (v : Byte) : (s.putByte dev a v).descheduled = s.descheduled := by
  unfold State.putByte
  simp
@[simp] theorem State.putByte_rcTails (s : State) (dev : Bool) (a : Word) (v : Byte) : (s.putByte dev a v).rcTails = s.rcTails := by
  unfold State.putByte
  simp
@[simp] theorem State.putByte_temps (s : State) (dev : Bool) (a : Word) (v : Byte) : (s.putByte dev a v).temps = s.temps := by
  unfold State.putByte
  simp
@[simp] theorem State.putByte_draws (s : State) (dev : Bool) (a : Word) (v : Byte) : (s.putByte dev a v).draws = s.draws := by
  unfold State.putByte
  simp
@[simp] theorem State.putByte_cache_ramSize (s : State) (dev : Bool) (a : Word) (v : Byte) : (s.putByte dev a v).cache.ramSize = s.cache.ramSize := by
  unfold State.putByte
  simp
@[simp] theorem State.putByte_cache_locked (s : State) (dev : Bool) (a : Word) (v : Byte) : (s.putByte dev a v).cache.locked = s.cache.locked := by
  unfold State.putByte
  simp

@[simp] theorem State.agentPut_r (s : State) (a v : Word) : (s.agentPut a v).r = s.r := by
  unfold State.agentPut
  simp
@[simp] theorem State.agentPut_trouble (s : State) (a v : Word) : (s.agentPut a v).trouble = s.trouble := by
  unfold State.agentPut
  simp
@[simp] theorem State.agentPut_sh (s : State) (a v : Word) : (s.agentPut a v).sh = s.sh := by
  unfold State.agentPut
  simp
@[simp] theorem State.agentPut_shadowValid (s : State) (a v : Word) : (s.agentPut a v).shadowValid = s.shadowValid := by
  unfold State.agentPut
  simp
@[simp] theorem State.agentPut_oreg (s : State) (a v : Word) : (s.agentPut a v).oreg = s.oreg := by
  unfold State.agentPut
  simp
@[simp] theorem State.agentPut_inChain (s : State) (a v : Word) : (s.agentPut a v).inChain = s.inChain := by
  unfold State.agentPut
  simp
@[simp] theorem State.agentPut_hi (s : State) (a v : Word) : (s.agentPut a v).hi = s.hi := by
  unfold State.agentPut
  simp
@[simp] theorem State.agentPut_lo (s : State) (a v : Word) : (s.agentPut a v).lo = s.lo := by
  unfold State.agentPut
  simp
@[simp] theorem State.agentPut_clockRunning (s : State) (a v : Word) : (s.agentPut a v).clockRunning = s.clockRunning := by
  unfold State.agentPut
  simp
@[simp] theorem State.agentPut_tickPhase (s : State) (a v : Word) : (s.agentPut a v).tickPhase = s.tickPhase := by
  unfold State.agentPut
  simp
@[simp] theorem State.agentPut_tsCount (s : State) (a v : Word) : (s.agentPut a v).tsCount = s.tsCount := by
  unfold State.agentPut
  simp
@[simp] theorem State.agentPut_intEnabled (s : State) (a v : Word) : (s.agentPut a v).intEnabled = s.intEnabled := by
  unfold State.agentPut
  simp
@[simp] theorem State.agentPut_conf (s : State) (a v : Word) : (s.agentPut a v).conf = s.conf := by
  unfold State.agentPut
  simp
@[simp] theorem State.agentPut_links (s : State) (a v : Word) : (s.agentPut a v).links = s.links := by
  unfold State.agentPut
  simp
@[simp] theorem State.agentPut_clink0 (s : State) (a v : Word) : (s.agentPut a v).clink0 = s.clink0 := by
  unfold State.agentPut
  simp
@[simp] theorem State.agentPut_clink1 (s : State) (a v : Word) : (s.agentPut a v).clink1 = s.clink1 := by
  unfold State.agentPut
  simp
@[simp] theorem State.agentPut_vcp (s : State) (a v : Word) : (s.agentPut a v).vcp = s.vcp := by
  unfold State.agentPut
  simp
@[simp] theorem State.agentPut_events (s : State) (a v : Word) : (s.agentPut a v).events = s.events := by
  unfold State.agentPut
  simp
@[simp] theorem State.agentPut_ctl (s : State) (a v : Word) : (s.agentPut a v).ctl = s.ctl := by
  unfold State.agentPut
  simp
@[simp] theorem State.agentPut_agenda (s : State) (a v : Word) : (s.agentPut a v).agenda = s.agenda := by
  unfold State.agentPut
  simp
@[simp] theorem State.agentPut_cpuMode (s : State) (a v : Word) : (s.agentPut a v).cpuMode = s.cpuMode := by
  unfold State.agentPut
  simp
@[simp] theorem State.agentPut_resuming (s : State) (a v : Word) : (s.agentPut a v).resuming = s.resuming := by
  unfold State.agentPut
  simp
@[simp] theorem State.agentPut_descheduled (s : State) (a v : Word) : (s.agentPut a v).descheduled = s.descheduled := by
  unfold State.agentPut
  simp
@[simp] theorem State.agentPut_rcTails (s : State) (a v : Word) : (s.agentPut a v).rcTails = s.rcTails := by
  unfold State.agentPut
  simp
@[simp] theorem State.agentPut_temps (s : State) (a v : Word) : (s.agentPut a v).temps = s.temps := by
  unfold State.agentPut
  simp
@[simp] theorem State.agentPut_draws (s : State) (a v : Word) : (s.agentPut a v).draws = s.draws := by
  unfold State.agentPut
  simp
@[simp] theorem State.agentPut_cache_ramSize (s : State) (a v : Word) : (s.agentPut a v).cache.ramSize = s.cache.ramSize := by
  unfold State.agentPut
  simp
@[simp] theorem State.agentPut_cache_locked (s : State) (a v : Word) : (s.agentPut a v).cache.locked = s.cache.locked := by
  unfold State.agentPut
  simp

@[simp] theorem State.note_r (s : State) (t : Trouble Fault) : (s.note t).r = s.r := by
  unfold State.note
  split <;> rfl
@[simp] theorem State.note_mem (s : State) (t : Trouble Fault) : (s.note t).mem = s.mem := by
  unfold State.note
  split <;> rfl
@[simp] theorem State.note_cache (s : State) (t : Trouble Fault) : (s.note t).cache = s.cache := by
  unfold State.note
  split <;> rfl
@[simp] theorem State.note_ws (s : State) (t : Trouble Fault) : (s.note t).ws = s.ws := by
  unfold State.note
  split <;> rfl
@[simp] theorem State.note_prefetch (s : State) (t : Trouble Fault) : (s.note t).prefetch = s.prefetch := by
  unfold State.note
  split <;> rfl
@[simp] theorem State.note_sh (s : State) (t : Trouble Fault) : (s.note t).sh = s.sh := by
  unfold State.note
  split <;> rfl
@[simp] theorem State.note_shadowValid (s : State) (t : Trouble Fault) : (s.note t).shadowValid = s.shadowValid := by
  unfold State.note
  split <;> rfl
@[simp] theorem State.note_oreg (s : State) (t : Trouble Fault) : (s.note t).oreg = s.oreg := by
  unfold State.note
  split <;> rfl
@[simp] theorem State.note_inChain (s : State) (t : Trouble Fault) : (s.note t).inChain = s.inChain := by
  unfold State.note
  split <;> rfl
@[simp] theorem State.note_hi (s : State) (t : Trouble Fault) : (s.note t).hi = s.hi := by
  unfold State.note
  split <;> rfl
@[simp] theorem State.note_lo (s : State) (t : Trouble Fault) : (s.note t).lo = s.lo := by
  unfold State.note
  split <;> rfl
@[simp] theorem State.note_clockRunning (s : State) (t : Trouble Fault) : (s.note t).clockRunning = s.clockRunning := by
  unfold State.note
  split <;> rfl
@[simp] theorem State.note_tickPhase (s : State) (t : Trouble Fault) : (s.note t).tickPhase = s.tickPhase := by
  unfold State.note
  split <;> rfl
@[simp] theorem State.note_tsCount (s : State) (t : Trouble Fault) : (s.note t).tsCount = s.tsCount := by
  unfold State.note
  split <;> rfl
@[simp] theorem State.note_intEnabled (s : State) (t : Trouble Fault) : (s.note t).intEnabled = s.intEnabled := by
  unfold State.note
  split <;> rfl
@[simp] theorem State.note_conf (s : State) (t : Trouble Fault) : (s.note t).conf = s.conf := by
  unfold State.note
  split <;> rfl
@[simp] theorem State.note_links (s : State) (t : Trouble Fault) : (s.note t).links = s.links := by
  unfold State.note
  split <;> rfl
@[simp] theorem State.note_clink0 (s : State) (t : Trouble Fault) : (s.note t).clink0 = s.clink0 := by
  unfold State.note
  split <;> rfl
@[simp] theorem State.note_clink1 (s : State) (t : Trouble Fault) : (s.note t).clink1 = s.clink1 := by
  unfold State.note
  split <;> rfl
@[simp] theorem State.note_vcp (s : State) (t : Trouble Fault) : (s.note t).vcp = s.vcp := by
  unfold State.note
  split <;> rfl
@[simp] theorem State.note_events (s : State) (t : Trouble Fault) : (s.note t).events = s.events := by
  unfold State.note
  split <;> rfl
@[simp] theorem State.note_ctl (s : State) (t : Trouble Fault) : (s.note t).ctl = s.ctl := by
  unfold State.note
  split <;> rfl
@[simp] theorem State.note_agenda (s : State) (t : Trouble Fault) : (s.note t).agenda = s.agenda := by
  unfold State.note
  split <;> rfl
@[simp] theorem State.note_cpuMode (s : State) (t : Trouble Fault) : (s.note t).cpuMode = s.cpuMode := by
  unfold State.note
  split <;> rfl
@[simp] theorem State.note_resuming (s : State) (t : Trouble Fault) : (s.note t).resuming = s.resuming := by
  unfold State.note
  split <;> rfl
@[simp] theorem State.note_descheduled (s : State) (t : Trouble Fault) : (s.note t).descheduled = s.descheduled := by
  unfold State.note
  split <;> rfl
@[simp] theorem State.note_rcTails (s : State) (t : Trouble Fault) : (s.note t).rcTails = s.rcTails := by
  unfold State.note
  split <;> rfl
@[simp] theorem State.note_temps (s : State) (t : Trouble Fault) : (s.note t).temps = s.temps := by
  unfold State.note
  split <;> rfl
@[simp] theorem State.note_draws (s : State) (t : Trouble Fault) : (s.note t).draws = s.draws := by
  unfold State.note
  split <;> rfl

@[simp] theorem State.noteIf_r (s : State) (c : Bool) (t : Trouble Fault) : (s.noteIf c t).r = s.r := by
  unfold State.noteIf
  split <;> simp
@[simp] theorem State.noteIf_mem (s : State) (c : Bool) (t : Trouble Fault) : (s.noteIf c t).mem = s.mem := by
  unfold State.noteIf
  split <;> simp
@[simp] theorem State.noteIf_cache (s : State) (c : Bool) (t : Trouble Fault) : (s.noteIf c t).cache = s.cache := by
  unfold State.noteIf
  split <;> simp
@[simp] theorem State.noteIf_ws (s : State) (c : Bool) (t : Trouble Fault) : (s.noteIf c t).ws = s.ws := by
  unfold State.noteIf
  split <;> simp
@[simp] theorem State.noteIf_prefetch (s : State) (c : Bool) (t : Trouble Fault) : (s.noteIf c t).prefetch = s.prefetch := by
  unfold State.noteIf
  split <;> simp
@[simp] theorem State.noteIf_sh (s : State) (c : Bool) (t : Trouble Fault) : (s.noteIf c t).sh = s.sh := by
  unfold State.noteIf
  split <;> simp
@[simp] theorem State.noteIf_shadowValid (s : State) (c : Bool) (t : Trouble Fault) : (s.noteIf c t).shadowValid = s.shadowValid := by
  unfold State.noteIf
  split <;> simp
@[simp] theorem State.noteIf_oreg (s : State) (c : Bool) (t : Trouble Fault) : (s.noteIf c t).oreg = s.oreg := by
  unfold State.noteIf
  split <;> simp
@[simp] theorem State.noteIf_inChain (s : State) (c : Bool) (t : Trouble Fault) : (s.noteIf c t).inChain = s.inChain := by
  unfold State.noteIf
  split <;> simp
@[simp] theorem State.noteIf_hi (s : State) (c : Bool) (t : Trouble Fault) : (s.noteIf c t).hi = s.hi := by
  unfold State.noteIf
  split <;> simp
@[simp] theorem State.noteIf_lo (s : State) (c : Bool) (t : Trouble Fault) : (s.noteIf c t).lo = s.lo := by
  unfold State.noteIf
  split <;> simp
@[simp] theorem State.noteIf_clockRunning (s : State) (c : Bool) (t : Trouble Fault) : (s.noteIf c t).clockRunning = s.clockRunning := by
  unfold State.noteIf
  split <;> simp
@[simp] theorem State.noteIf_tickPhase (s : State) (c : Bool) (t : Trouble Fault) : (s.noteIf c t).tickPhase = s.tickPhase := by
  unfold State.noteIf
  split <;> simp
@[simp] theorem State.noteIf_tsCount (s : State) (c : Bool) (t : Trouble Fault) : (s.noteIf c t).tsCount = s.tsCount := by
  unfold State.noteIf
  split <;> simp
@[simp] theorem State.noteIf_intEnabled (s : State) (c : Bool) (t : Trouble Fault) : (s.noteIf c t).intEnabled = s.intEnabled := by
  unfold State.noteIf
  split <;> simp
@[simp] theorem State.noteIf_conf (s : State) (c : Bool) (t : Trouble Fault) : (s.noteIf c t).conf = s.conf := by
  unfold State.noteIf
  split <;> simp
@[simp] theorem State.noteIf_links (s : State) (c : Bool) (t : Trouble Fault) : (s.noteIf c t).links = s.links := by
  unfold State.noteIf
  split <;> simp
@[simp] theorem State.noteIf_clink0 (s : State) (c : Bool) (t : Trouble Fault) : (s.noteIf c t).clink0 = s.clink0 := by
  unfold State.noteIf
  split <;> simp
@[simp] theorem State.noteIf_clink1 (s : State) (c : Bool) (t : Trouble Fault) : (s.noteIf c t).clink1 = s.clink1 := by
  unfold State.noteIf
  split <;> simp
@[simp] theorem State.noteIf_vcp (s : State) (c : Bool) (t : Trouble Fault) : (s.noteIf c t).vcp = s.vcp := by
  unfold State.noteIf
  split <;> simp
@[simp] theorem State.noteIf_events (s : State) (c : Bool) (t : Trouble Fault) : (s.noteIf c t).events = s.events := by
  unfold State.noteIf
  split <;> simp
@[simp] theorem State.noteIf_ctl (s : State) (c : Bool) (t : Trouble Fault) : (s.noteIf c t).ctl = s.ctl := by
  unfold State.noteIf
  split <;> simp
@[simp] theorem State.noteIf_agenda (s : State) (c : Bool) (t : Trouble Fault) : (s.noteIf c t).agenda = s.agenda := by
  unfold State.noteIf
  split <;> simp
@[simp] theorem State.noteIf_cpuMode (s : State) (c : Bool) (t : Trouble Fault) : (s.noteIf c t).cpuMode = s.cpuMode := by
  unfold State.noteIf
  split <;> simp
@[simp] theorem State.noteIf_resuming (s : State) (c : Bool) (t : Trouble Fault) : (s.noteIf c t).resuming = s.resuming := by
  unfold State.noteIf
  split <;> simp
@[simp] theorem State.noteIf_descheduled (s : State) (c : Bool) (t : Trouble Fault) : (s.noteIf c t).descheduled = s.descheduled := by
  unfold State.noteIf
  split <;> simp
@[simp] theorem State.noteIf_rcTails (s : State) (c : Bool) (t : Trouble Fault) : (s.noteIf c t).rcTails = s.rcTails := by
  unfold State.noteIf
  split <;> simp
@[simp] theorem State.noteIf_temps (s : State) (c : Bool) (t : Trouble Fault) : (s.noteIf c t).temps = s.temps := by
  unfold State.noteIf
  split <;> simp
@[simp] theorem State.noteIf_draws (s : State) (c : Bool) (t : Trouble Fault) : (s.noteIf c t).draws = s.draws := by
  unfold State.noteIf
  split <;> simp

@[simp] theorem State.readMiss_r (s : State) (a : Word) : (s.readMiss a).r = s.r := by
  unfold State.readMiss
  split <;> rfl
@[simp] theorem State.readMiss_mem (s : State) (a : Word) : (s.readMiss a).mem = s.mem := by
  unfold State.readMiss
  split <;> rfl
@[simp] theorem State.readMiss_ws (s : State) (a : Word) : (s.readMiss a).ws = s.ws := by
  unfold State.readMiss
  split <;> rfl
@[simp] theorem State.readMiss_prefetch (s : State) (a : Word) : (s.readMiss a).prefetch = s.prefetch := by
  unfold State.readMiss
  split <;> rfl
@[simp] theorem State.readMiss_trouble (s : State) (a : Word) : (s.readMiss a).trouble = s.trouble := by
  unfold State.readMiss
  split <;> rfl
@[simp] theorem State.readMiss_sh (s : State) (a : Word) : (s.readMiss a).sh = s.sh := by
  unfold State.readMiss
  split <;> rfl
@[simp] theorem State.readMiss_shadowValid (s : State) (a : Word) : (s.readMiss a).shadowValid = s.shadowValid := by
  unfold State.readMiss
  split <;> rfl
@[simp] theorem State.readMiss_oreg (s : State) (a : Word) : (s.readMiss a).oreg = s.oreg := by
  unfold State.readMiss
  split <;> rfl
@[simp] theorem State.readMiss_inChain (s : State) (a : Word) : (s.readMiss a).inChain = s.inChain := by
  unfold State.readMiss
  split <;> rfl
@[simp] theorem State.readMiss_hi (s : State) (a : Word) : (s.readMiss a).hi = s.hi := by
  unfold State.readMiss
  split <;> rfl
@[simp] theorem State.readMiss_lo (s : State) (a : Word) : (s.readMiss a).lo = s.lo := by
  unfold State.readMiss
  split <;> rfl
@[simp] theorem State.readMiss_clockRunning (s : State) (a : Word) : (s.readMiss a).clockRunning = s.clockRunning := by
  unfold State.readMiss
  split <;> rfl
@[simp] theorem State.readMiss_tickPhase (s : State) (a : Word) : (s.readMiss a).tickPhase = s.tickPhase := by
  unfold State.readMiss
  split <;> rfl
@[simp] theorem State.readMiss_tsCount (s : State) (a : Word) : (s.readMiss a).tsCount = s.tsCount := by
  unfold State.readMiss
  split <;> rfl
@[simp] theorem State.readMiss_intEnabled (s : State) (a : Word) : (s.readMiss a).intEnabled = s.intEnabled := by
  unfold State.readMiss
  split <;> rfl
@[simp] theorem State.readMiss_conf (s : State) (a : Word) : (s.readMiss a).conf = s.conf := by
  unfold State.readMiss
  split <;> rfl
@[simp] theorem State.readMiss_links (s : State) (a : Word) : (s.readMiss a).links = s.links := by
  unfold State.readMiss
  split <;> rfl
@[simp] theorem State.readMiss_clink0 (s : State) (a : Word) : (s.readMiss a).clink0 = s.clink0 := by
  unfold State.readMiss
  split <;> rfl
@[simp] theorem State.readMiss_clink1 (s : State) (a : Word) : (s.readMiss a).clink1 = s.clink1 := by
  unfold State.readMiss
  split <;> rfl
@[simp] theorem State.readMiss_vcp (s : State) (a : Word) : (s.readMiss a).vcp = s.vcp := by
  unfold State.readMiss
  split <;> rfl
@[simp] theorem State.readMiss_events (s : State) (a : Word) : (s.readMiss a).events = s.events := by
  unfold State.readMiss
  split <;> rfl
@[simp] theorem State.readMiss_ctl (s : State) (a : Word) : (s.readMiss a).ctl = s.ctl := by
  unfold State.readMiss
  split <;> rfl
@[simp] theorem State.readMiss_agenda (s : State) (a : Word) : (s.readMiss a).agenda = s.agenda := by
  unfold State.readMiss
  split <;> rfl
@[simp] theorem State.readMiss_cpuMode (s : State) (a : Word) : (s.readMiss a).cpuMode = s.cpuMode := by
  unfold State.readMiss
  split <;> rfl
@[simp] theorem State.readMiss_resuming (s : State) (a : Word) : (s.readMiss a).resuming = s.resuming := by
  unfold State.readMiss
  split <;> rfl
@[simp] theorem State.readMiss_descheduled (s : State) (a : Word) : (s.readMiss a).descheduled = s.descheduled := by
  unfold State.readMiss
  split <;> rfl
@[simp] theorem State.readMiss_rcTails (s : State) (a : Word) : (s.readMiss a).rcTails = s.rcTails := by
  unfold State.readMiss
  split <;> rfl
@[simp] theorem State.readMiss_temps (s : State) (a : Word) : (s.readMiss a).temps = s.temps := by
  unfold State.readMiss
  split <;> rfl
@[simp] theorem State.readMiss_draws (s : State) (a : Word) : (s.readMiss a).draws = s.draws := by
  unfold State.readMiss
  split <;> rfl
@[simp] theorem State.readMiss_cache_ramSize (s : State) (a : Word) : (s.readMiss a).cache.ramSize = s.cache.ramSize := by
  unfold State.readMiss
  split <;> rfl
@[simp] theorem State.readMiss_cache_locked (s : State) (a : Word) : (s.readMiss a).cache.locked = s.cache.locked := by
  unfold State.readMiss
  split <;> rfl

@[simp] theorem State.loadMiss_r (s : State) (dev : Bool) (a : Word) : (s.loadMiss dev a).r = s.r := by
  unfold State.loadMiss
  split <;> simp
@[simp] theorem State.loadMiss_mem (s : State) (dev : Bool) (a : Word) : (s.loadMiss dev a).mem = s.mem := by
  unfold State.loadMiss
  split <;> simp
@[simp] theorem State.loadMiss_ws (s : State) (dev : Bool) (a : Word) : (s.loadMiss dev a).ws = s.ws := by
  unfold State.loadMiss
  split <;> simp
@[simp] theorem State.loadMiss_prefetch (s : State) (dev : Bool) (a : Word) : (s.loadMiss dev a).prefetch = s.prefetch := by
  unfold State.loadMiss
  split <;> simp
@[simp] theorem State.loadMiss_trouble (s : State) (dev : Bool) (a : Word) : (s.loadMiss dev a).trouble = s.trouble := by
  unfold State.loadMiss
  split <;> simp
@[simp] theorem State.loadMiss_sh (s : State) (dev : Bool) (a : Word) : (s.loadMiss dev a).sh = s.sh := by
  unfold State.loadMiss
  split <;> simp
@[simp] theorem State.loadMiss_shadowValid (s : State) (dev : Bool) (a : Word) : (s.loadMiss dev a).shadowValid = s.shadowValid := by
  unfold State.loadMiss
  split <;> simp
@[simp] theorem State.loadMiss_oreg (s : State) (dev : Bool) (a : Word) : (s.loadMiss dev a).oreg = s.oreg := by
  unfold State.loadMiss
  split <;> simp
@[simp] theorem State.loadMiss_inChain (s : State) (dev : Bool) (a : Word) : (s.loadMiss dev a).inChain = s.inChain := by
  unfold State.loadMiss
  split <;> simp
@[simp] theorem State.loadMiss_hi (s : State) (dev : Bool) (a : Word) : (s.loadMiss dev a).hi = s.hi := by
  unfold State.loadMiss
  split <;> simp
@[simp] theorem State.loadMiss_lo (s : State) (dev : Bool) (a : Word) : (s.loadMiss dev a).lo = s.lo := by
  unfold State.loadMiss
  split <;> simp
@[simp] theorem State.loadMiss_clockRunning (s : State) (dev : Bool) (a : Word) : (s.loadMiss dev a).clockRunning = s.clockRunning := by
  unfold State.loadMiss
  split <;> simp
@[simp] theorem State.loadMiss_tickPhase (s : State) (dev : Bool) (a : Word) : (s.loadMiss dev a).tickPhase = s.tickPhase := by
  unfold State.loadMiss
  split <;> simp
@[simp] theorem State.loadMiss_tsCount (s : State) (dev : Bool) (a : Word) : (s.loadMiss dev a).tsCount = s.tsCount := by
  unfold State.loadMiss
  split <;> simp
@[simp] theorem State.loadMiss_intEnabled (s : State) (dev : Bool) (a : Word) : (s.loadMiss dev a).intEnabled = s.intEnabled := by
  unfold State.loadMiss
  split <;> simp
@[simp] theorem State.loadMiss_conf (s : State) (dev : Bool) (a : Word) : (s.loadMiss dev a).conf = s.conf := by
  unfold State.loadMiss
  split <;> simp
@[simp] theorem State.loadMiss_links (s : State) (dev : Bool) (a : Word) : (s.loadMiss dev a).links = s.links := by
  unfold State.loadMiss
  split <;> simp
@[simp] theorem State.loadMiss_clink0 (s : State) (dev : Bool) (a : Word) : (s.loadMiss dev a).clink0 = s.clink0 := by
  unfold State.loadMiss
  split <;> simp
@[simp] theorem State.loadMiss_clink1 (s : State) (dev : Bool) (a : Word) : (s.loadMiss dev a).clink1 = s.clink1 := by
  unfold State.loadMiss
  split <;> simp
@[simp] theorem State.loadMiss_vcp (s : State) (dev : Bool) (a : Word) : (s.loadMiss dev a).vcp = s.vcp := by
  unfold State.loadMiss
  split <;> simp
@[simp] theorem State.loadMiss_events (s : State) (dev : Bool) (a : Word) : (s.loadMiss dev a).events = s.events := by
  unfold State.loadMiss
  split <;> simp
@[simp] theorem State.loadMiss_ctl (s : State) (dev : Bool) (a : Word) : (s.loadMiss dev a).ctl = s.ctl := by
  unfold State.loadMiss
  split <;> simp
@[simp] theorem State.loadMiss_agenda (s : State) (dev : Bool) (a : Word) : (s.loadMiss dev a).agenda = s.agenda := by
  unfold State.loadMiss
  split <;> simp
@[simp] theorem State.loadMiss_cpuMode (s : State) (dev : Bool) (a : Word) : (s.loadMiss dev a).cpuMode = s.cpuMode := by
  unfold State.loadMiss
  split <;> simp
@[simp] theorem State.loadMiss_resuming (s : State) (dev : Bool) (a : Word) : (s.loadMiss dev a).resuming = s.resuming := by
  unfold State.loadMiss
  split <;> simp
@[simp] theorem State.loadMiss_descheduled (s : State) (dev : Bool) (a : Word) : (s.loadMiss dev a).descheduled = s.descheduled := by
  unfold State.loadMiss
  split <;> simp
@[simp] theorem State.loadMiss_rcTails (s : State) (dev : Bool) (a : Word) : (s.loadMiss dev a).rcTails = s.rcTails := by
  unfold State.loadMiss
  split <;> simp
@[simp] theorem State.loadMiss_temps (s : State) (dev : Bool) (a : Word) : (s.loadMiss dev a).temps = s.temps := by
  unfold State.loadMiss
  split <;> simp
@[simp] theorem State.loadMiss_draws (s : State) (dev : Bool) (a : Word) : (s.loadMiss dev a).draws = s.draws := by
  unfold State.loadMiss
  split <;> simp
@[simp] theorem State.loadMiss_cache_ramSize (s : State) (dev : Bool) (a : Word) : (s.loadMiss dev a).cache.ramSize = s.cache.ramSize := by
  unfold State.loadMiss
  split <;> simp
@[simp] theorem State.loadMiss_cache_locked (s : State) (dev : Bool) (a : Word) : (s.loadMiss dev a).cache.locked = s.cache.locked := by
  unfold State.loadMiss
  split <;> simp

@[simp] theorem State.reach_r (s : State) (wr : Bool) (a : Word) : (s.reach wr a).r = s.r := by
  unfold State.reach
  split <;> simp
@[simp] theorem State.reach_mem (s : State) (wr : Bool) (a : Word) : (s.reach wr a).mem = s.mem := by
  unfold State.reach
  split <;> simp
@[simp] theorem State.reach_ws (s : State) (wr : Bool) (a : Word) : (s.reach wr a).ws = s.ws := by
  unfold State.reach
  split <;> simp
@[simp] theorem State.reach_prefetch (s : State) (wr : Bool) (a : Word) : (s.reach wr a).prefetch = s.prefetch := by
  unfold State.reach
  split <;> simp
@[simp] theorem State.reach_trouble (s : State) (wr : Bool) (a : Word) : (s.reach wr a).trouble = s.trouble := by
  unfold State.reach
  split <;> simp
@[simp] theorem State.reach_sh (s : State) (wr : Bool) (a : Word) : (s.reach wr a).sh = s.sh := by
  unfold State.reach
  split <;> simp
@[simp] theorem State.reach_shadowValid (s : State) (wr : Bool) (a : Word) : (s.reach wr a).shadowValid = s.shadowValid := by
  unfold State.reach
  split <;> simp
@[simp] theorem State.reach_oreg (s : State) (wr : Bool) (a : Word) : (s.reach wr a).oreg = s.oreg := by
  unfold State.reach
  split <;> simp
@[simp] theorem State.reach_inChain (s : State) (wr : Bool) (a : Word) : (s.reach wr a).inChain = s.inChain := by
  unfold State.reach
  split <;> simp
@[simp] theorem State.reach_hi (s : State) (wr : Bool) (a : Word) : (s.reach wr a).hi = s.hi := by
  unfold State.reach
  split <;> simp
@[simp] theorem State.reach_lo (s : State) (wr : Bool) (a : Word) : (s.reach wr a).lo = s.lo := by
  unfold State.reach
  split <;> simp
@[simp] theorem State.reach_clockRunning (s : State) (wr : Bool) (a : Word) : (s.reach wr a).clockRunning = s.clockRunning := by
  unfold State.reach
  split <;> simp
@[simp] theorem State.reach_tickPhase (s : State) (wr : Bool) (a : Word) : (s.reach wr a).tickPhase = s.tickPhase := by
  unfold State.reach
  split <;> simp
@[simp] theorem State.reach_tsCount (s : State) (wr : Bool) (a : Word) : (s.reach wr a).tsCount = s.tsCount := by
  unfold State.reach
  split <;> simp
@[simp] theorem State.reach_intEnabled (s : State) (wr : Bool) (a : Word) : (s.reach wr a).intEnabled = s.intEnabled := by
  unfold State.reach
  split <;> simp
@[simp] theorem State.reach_conf (s : State) (wr : Bool) (a : Word) : (s.reach wr a).conf = s.conf := by
  unfold State.reach
  split <;> simp
@[simp] theorem State.reach_links (s : State) (wr : Bool) (a : Word) : (s.reach wr a).links = s.links := by
  unfold State.reach
  split <;> simp
@[simp] theorem State.reach_clink0 (s : State) (wr : Bool) (a : Word) : (s.reach wr a).clink0 = s.clink0 := by
  unfold State.reach
  split <;> simp
@[simp] theorem State.reach_clink1 (s : State) (wr : Bool) (a : Word) : (s.reach wr a).clink1 = s.clink1 := by
  unfold State.reach
  split <;> simp
@[simp] theorem State.reach_vcp (s : State) (wr : Bool) (a : Word) : (s.reach wr a).vcp = s.vcp := by
  unfold State.reach
  split <;> simp
@[simp] theorem State.reach_events (s : State) (wr : Bool) (a : Word) : (s.reach wr a).events = s.events := by
  unfold State.reach
  split <;> simp
@[simp] theorem State.reach_ctl (s : State) (wr : Bool) (a : Word) : (s.reach wr a).ctl = s.ctl := by
  unfold State.reach
  split <;> simp
@[simp] theorem State.reach_agenda (s : State) (wr : Bool) (a : Word) : (s.reach wr a).agenda = s.agenda := by
  unfold State.reach
  split <;> simp
@[simp] theorem State.reach_cpuMode (s : State) (wr : Bool) (a : Word) : (s.reach wr a).cpuMode = s.cpuMode := by
  unfold State.reach
  split <;> simp
@[simp] theorem State.reach_resuming (s : State) (wr : Bool) (a : Word) : (s.reach wr a).resuming = s.resuming := by
  unfold State.reach
  split <;> simp
@[simp] theorem State.reach_descheduled (s : State) (wr : Bool) (a : Word) : (s.reach wr a).descheduled = s.descheduled := by
  unfold State.reach
  split <;> simp
@[simp] theorem State.reach_rcTails (s : State) (wr : Bool) (a : Word) : (s.reach wr a).rcTails = s.rcTails := by
  unfold State.reach
  split <;> simp
@[simp] theorem State.reach_temps (s : State) (wr : Bool) (a : Word) : (s.reach wr a).temps = s.temps := by
  unfold State.reach
  split <;> simp
@[simp] theorem State.reach_draws (s : State) (wr : Bool) (a : Word) : (s.reach wr a).draws = s.draws := by
  unfold State.reach
  split <;> simp
@[simp] theorem State.reach_cache_ramSize (s : State) (wr : Bool) (a : Word) : (s.reach wr a).cache.ramSize = s.cache.ramSize := by
  unfold State.reach
  split <;> simp
@[simp] theorem State.reach_cache_locked (s : State) (wr : Bool) (a : Word) : (s.reach wr a).cache.locked = s.cache.locked := by
  unfold State.reach
  split <;> simp

@[simp] theorem State.touch_r (s : State) (wr : Bool) (a : Word) : (s.touch wr a).r = s.r := by
  unfold State.touch
  simp
@[simp] theorem State.touch_mem (s : State) (wr : Bool) (a : Word) : (s.touch wr a).mem = s.mem := by
  unfold State.touch
  simp
@[simp] theorem State.touch_ws (s : State) (wr : Bool) (a : Word) : (s.touch wr a).ws = s.ws := by
  unfold State.touch
  simp
@[simp] theorem State.touch_prefetch (s : State) (wr : Bool) (a : Word) : (s.touch wr a).prefetch = s.prefetch := by
  unfold State.touch
  simp
@[simp] theorem State.touch_sh (s : State) (wr : Bool) (a : Word) : (s.touch wr a).sh = s.sh := by
  unfold State.touch
  simp
@[simp] theorem State.touch_shadowValid (s : State) (wr : Bool) (a : Word) : (s.touch wr a).shadowValid = s.shadowValid := by
  unfold State.touch
  simp
@[simp] theorem State.touch_oreg (s : State) (wr : Bool) (a : Word) : (s.touch wr a).oreg = s.oreg := by
  unfold State.touch
  simp
@[simp] theorem State.touch_inChain (s : State) (wr : Bool) (a : Word) : (s.touch wr a).inChain = s.inChain := by
  unfold State.touch
  simp
@[simp] theorem State.touch_hi (s : State) (wr : Bool) (a : Word) : (s.touch wr a).hi = s.hi := by
  unfold State.touch
  simp
@[simp] theorem State.touch_lo (s : State) (wr : Bool) (a : Word) : (s.touch wr a).lo = s.lo := by
  unfold State.touch
  simp
@[simp] theorem State.touch_clockRunning (s : State) (wr : Bool) (a : Word) : (s.touch wr a).clockRunning = s.clockRunning := by
  unfold State.touch
  simp
@[simp] theorem State.touch_tickPhase (s : State) (wr : Bool) (a : Word) : (s.touch wr a).tickPhase = s.tickPhase := by
  unfold State.touch
  simp
@[simp] theorem State.touch_tsCount (s : State) (wr : Bool) (a : Word) : (s.touch wr a).tsCount = s.tsCount := by
  unfold State.touch
  simp
@[simp] theorem State.touch_intEnabled (s : State) (wr : Bool) (a : Word) : (s.touch wr a).intEnabled = s.intEnabled := by
  unfold State.touch
  simp
@[simp] theorem State.touch_conf (s : State) (wr : Bool) (a : Word) : (s.touch wr a).conf = s.conf := by
  unfold State.touch
  simp
@[simp] theorem State.touch_links (s : State) (wr : Bool) (a : Word) : (s.touch wr a).links = s.links := by
  unfold State.touch
  simp
@[simp] theorem State.touch_clink0 (s : State) (wr : Bool) (a : Word) : (s.touch wr a).clink0 = s.clink0 := by
  unfold State.touch
  simp
@[simp] theorem State.touch_clink1 (s : State) (wr : Bool) (a : Word) : (s.touch wr a).clink1 = s.clink1 := by
  unfold State.touch
  simp
@[simp] theorem State.touch_vcp (s : State) (wr : Bool) (a : Word) : (s.touch wr a).vcp = s.vcp := by
  unfold State.touch
  simp
@[simp] theorem State.touch_events (s : State) (wr : Bool) (a : Word) : (s.touch wr a).events = s.events := by
  unfold State.touch
  simp
@[simp] theorem State.touch_ctl (s : State) (wr : Bool) (a : Word) : (s.touch wr a).ctl = s.ctl := by
  unfold State.touch
  simp
@[simp] theorem State.touch_agenda (s : State) (wr : Bool) (a : Word) : (s.touch wr a).agenda = s.agenda := by
  unfold State.touch
  simp
@[simp] theorem State.touch_cpuMode (s : State) (wr : Bool) (a : Word) : (s.touch wr a).cpuMode = s.cpuMode := by
  unfold State.touch
  simp
@[simp] theorem State.touch_resuming (s : State) (wr : Bool) (a : Word) : (s.touch wr a).resuming = s.resuming := by
  unfold State.touch
  simp
@[simp] theorem State.touch_descheduled (s : State) (wr : Bool) (a : Word) : (s.touch wr a).descheduled = s.descheduled := by
  unfold State.touch
  simp
@[simp] theorem State.touch_rcTails (s : State) (wr : Bool) (a : Word) : (s.touch wr a).rcTails = s.rcTails := by
  unfold State.touch
  simp
@[simp] theorem State.touch_temps (s : State) (wr : Bool) (a : Word) : (s.touch wr a).temps = s.temps := by
  unfold State.touch
  simp
@[simp] theorem State.touch_draws (s : State) (wr : Bool) (a : Word) : (s.touch wr a).draws = s.draws := by
  unfold State.touch
  simp
@[simp] theorem State.touch_cache_ramSize (s : State) (wr : Bool) (a : Word) : (s.touch wr a).cache.ramSize = s.cache.ramSize := by
  unfold State.touch
  simp
@[simp] theorem State.touch_cache_locked (s : State) (wr : Bool) (a : Word) : (s.touch wr a).cache.locked = s.cache.locked := by
  unfold State.touch
  simp

@[simp] theorem State.agentTouch_r (s : State) (wr : Bool) (a : Word) : (s.agentTouch wr a).r = s.r := by
  unfold State.agentTouch
  simp
@[simp] theorem State.agentTouch_mem (s : State) (wr : Bool) (a : Word) : (s.agentTouch wr a).mem = s.mem := by
  unfold State.agentTouch
  simp
@[simp] theorem State.agentTouch_ws (s : State) (wr : Bool) (a : Word) : (s.agentTouch wr a).ws = s.ws := by
  unfold State.agentTouch
  simp
@[simp] theorem State.agentTouch_prefetch (s : State) (wr : Bool) (a : Word) : (s.agentTouch wr a).prefetch = s.prefetch := by
  unfold State.agentTouch
  simp
@[simp] theorem State.agentTouch_sh (s : State) (wr : Bool) (a : Word) : (s.agentTouch wr a).sh = s.sh := by
  unfold State.agentTouch
  simp
@[simp] theorem State.agentTouch_shadowValid (s : State) (wr : Bool) (a : Word) : (s.agentTouch wr a).shadowValid = s.shadowValid := by
  unfold State.agentTouch
  simp
@[simp] theorem State.agentTouch_oreg (s : State) (wr : Bool) (a : Word) : (s.agentTouch wr a).oreg = s.oreg := by
  unfold State.agentTouch
  simp
@[simp] theorem State.agentTouch_inChain (s : State) (wr : Bool) (a : Word) : (s.agentTouch wr a).inChain = s.inChain := by
  unfold State.agentTouch
  simp
@[simp] theorem State.agentTouch_hi (s : State) (wr : Bool) (a : Word) : (s.agentTouch wr a).hi = s.hi := by
  unfold State.agentTouch
  simp
@[simp] theorem State.agentTouch_lo (s : State) (wr : Bool) (a : Word) : (s.agentTouch wr a).lo = s.lo := by
  unfold State.agentTouch
  simp
@[simp] theorem State.agentTouch_clockRunning (s : State) (wr : Bool) (a : Word) : (s.agentTouch wr a).clockRunning = s.clockRunning := by
  unfold State.agentTouch
  simp
@[simp] theorem State.agentTouch_tickPhase (s : State) (wr : Bool) (a : Word) : (s.agentTouch wr a).tickPhase = s.tickPhase := by
  unfold State.agentTouch
  simp
@[simp] theorem State.agentTouch_tsCount (s : State) (wr : Bool) (a : Word) : (s.agentTouch wr a).tsCount = s.tsCount := by
  unfold State.agentTouch
  simp
@[simp] theorem State.agentTouch_intEnabled (s : State) (wr : Bool) (a : Word) : (s.agentTouch wr a).intEnabled = s.intEnabled := by
  unfold State.agentTouch
  simp
@[simp] theorem State.agentTouch_conf (s : State) (wr : Bool) (a : Word) : (s.agentTouch wr a).conf = s.conf := by
  unfold State.agentTouch
  simp
@[simp] theorem State.agentTouch_links (s : State) (wr : Bool) (a : Word) : (s.agentTouch wr a).links = s.links := by
  unfold State.agentTouch
  simp
@[simp] theorem State.agentTouch_clink0 (s : State) (wr : Bool) (a : Word) : (s.agentTouch wr a).clink0 = s.clink0 := by
  unfold State.agentTouch
  simp
@[simp] theorem State.agentTouch_clink1 (s : State) (wr : Bool) (a : Word) : (s.agentTouch wr a).clink1 = s.clink1 := by
  unfold State.agentTouch
  simp
@[simp] theorem State.agentTouch_vcp (s : State) (wr : Bool) (a : Word) : (s.agentTouch wr a).vcp = s.vcp := by
  unfold State.agentTouch
  simp
@[simp] theorem State.agentTouch_events (s : State) (wr : Bool) (a : Word) : (s.agentTouch wr a).events = s.events := by
  unfold State.agentTouch
  simp
@[simp] theorem State.agentTouch_ctl (s : State) (wr : Bool) (a : Word) : (s.agentTouch wr a).ctl = s.ctl := by
  unfold State.agentTouch
  simp
@[simp] theorem State.agentTouch_agenda (s : State) (wr : Bool) (a : Word) : (s.agentTouch wr a).agenda = s.agenda := by
  unfold State.agentTouch
  simp
@[simp] theorem State.agentTouch_cpuMode (s : State) (wr : Bool) (a : Word) : (s.agentTouch wr a).cpuMode = s.cpuMode := by
  unfold State.agentTouch
  simp
@[simp] theorem State.agentTouch_resuming (s : State) (wr : Bool) (a : Word) : (s.agentTouch wr a).resuming = s.resuming := by
  unfold State.agentTouch
  simp
@[simp] theorem State.agentTouch_descheduled (s : State) (wr : Bool) (a : Word) : (s.agentTouch wr a).descheduled = s.descheduled := by
  unfold State.agentTouch
  simp
@[simp] theorem State.agentTouch_rcTails (s : State) (wr : Bool) (a : Word) : (s.agentTouch wr a).rcTails = s.rcTails := by
  unfold State.agentTouch
  simp
@[simp] theorem State.agentTouch_temps (s : State) (wr : Bool) (a : Word) : (s.agentTouch wr a).temps = s.temps := by
  unfold State.agentTouch
  simp
@[simp] theorem State.agentTouch_draws (s : State) (wr : Bool) (a : Word) : (s.agentTouch wr a).draws = s.draws := by
  unfold State.agentTouch
  simp
@[simp] theorem State.agentTouch_cache_ramSize (s : State) (wr : Bool) (a : Word) : (s.agentTouch wr a).cache.ramSize = s.cache.ramSize := by
  unfold State.agentTouch
  simp
@[simp] theorem State.agentTouch_cache_locked (s : State) (wr : Bool) (a : Word) : (s.agentTouch wr a).cache.locked = s.cache.locked := by
  unfold State.agentTouch
  simp

@[simp] theorem State.mput_r (s : State) (a v : Word) : (s.mput a v).r = s.r := by
  unfold State.mput
  simp
@[simp] theorem State.mput_sh (s : State) (a v : Word) : (s.mput a v).sh = s.sh := by
  unfold State.mput
  simp
@[simp] theorem State.mput_shadowValid (s : State) (a v : Word) : (s.mput a v).shadowValid = s.shadowValid := by
  unfold State.mput
  simp
@[simp] theorem State.mput_oreg (s : State) (a v : Word) : (s.mput a v).oreg = s.oreg := by
  unfold State.mput
  simp
@[simp] theorem State.mput_inChain (s : State) (a v : Word) : (s.mput a v).inChain = s.inChain := by
  unfold State.mput
  simp
@[simp] theorem State.mput_hi (s : State) (a v : Word) : (s.mput a v).hi = s.hi := by
  unfold State.mput
  simp
@[simp] theorem State.mput_lo (s : State) (a v : Word) : (s.mput a v).lo = s.lo := by
  unfold State.mput
  simp
@[simp] theorem State.mput_clockRunning (s : State) (a v : Word) : (s.mput a v).clockRunning = s.clockRunning := by
  unfold State.mput
  simp
@[simp] theorem State.mput_tickPhase (s : State) (a v : Word) : (s.mput a v).tickPhase = s.tickPhase := by
  unfold State.mput
  simp
@[simp] theorem State.mput_tsCount (s : State) (a v : Word) : (s.mput a v).tsCount = s.tsCount := by
  unfold State.mput
  simp
@[simp] theorem State.mput_intEnabled (s : State) (a v : Word) : (s.mput a v).intEnabled = s.intEnabled := by
  unfold State.mput
  simp
@[simp] theorem State.mput_conf (s : State) (a v : Word) : (s.mput a v).conf = s.conf := by
  unfold State.mput
  simp
@[simp] theorem State.mput_links (s : State) (a v : Word) : (s.mput a v).links = s.links := by
  unfold State.mput
  simp
@[simp] theorem State.mput_clink0 (s : State) (a v : Word) : (s.mput a v).clink0 = s.clink0 := by
  unfold State.mput
  simp
@[simp] theorem State.mput_clink1 (s : State) (a v : Word) : (s.mput a v).clink1 = s.clink1 := by
  unfold State.mput
  simp
@[simp] theorem State.mput_vcp (s : State) (a v : Word) : (s.mput a v).vcp = s.vcp := by
  unfold State.mput
  simp
@[simp] theorem State.mput_events (s : State) (a v : Word) : (s.mput a v).events = s.events := by
  unfold State.mput
  simp
@[simp] theorem State.mput_ctl (s : State) (a v : Word) : (s.mput a v).ctl = s.ctl := by
  unfold State.mput
  simp
@[simp] theorem State.mput_agenda (s : State) (a v : Word) : (s.mput a v).agenda = s.agenda := by
  unfold State.mput
  simp
@[simp] theorem State.mput_cpuMode (s : State) (a v : Word) : (s.mput a v).cpuMode = s.cpuMode := by
  unfold State.mput
  simp
@[simp] theorem State.mput_resuming (s : State) (a v : Word) : (s.mput a v).resuming = s.resuming := by
  unfold State.mput
  simp
@[simp] theorem State.mput_descheduled (s : State) (a v : Word) : (s.mput a v).descheduled = s.descheduled := by
  unfold State.mput
  simp
@[simp] theorem State.mput_rcTails (s : State) (a v : Word) : (s.mput a v).rcTails = s.rcTails := by
  unfold State.mput
  simp
@[simp] theorem State.mput_temps (s : State) (a v : Word) : (s.mput a v).temps = s.temps := by
  unfold State.mput
  simp
@[simp] theorem State.mput_draws (s : State) (a v : Word) : (s.mput a v).draws = s.draws := by
  unfold State.mput
  simp
@[simp] theorem State.mput_cache_ramSize (s : State) (a v : Word) : (s.mput a v).cache.ramSize = s.cache.ramSize := by
  unfold State.mput
  simp
@[simp] theorem State.mput_cache_locked (s : State) (a v : Word) : (s.mput a v).cache.locked = s.cache.locked := by
  unfold State.mput
  simp

@[simp] theorem State.aput_r (s : State) (a v : Word) : (s.aput a v).r = s.r := by
  unfold State.aput
  simp
@[simp] theorem State.aput_sh (s : State) (a v : Word) : (s.aput a v).sh = s.sh := by
  unfold State.aput
  simp
@[simp] theorem State.aput_shadowValid (s : State) (a v : Word) : (s.aput a v).shadowValid = s.shadowValid := by
  unfold State.aput
  simp
@[simp] theorem State.aput_oreg (s : State) (a v : Word) : (s.aput a v).oreg = s.oreg := by
  unfold State.aput
  simp
@[simp] theorem State.aput_inChain (s : State) (a v : Word) : (s.aput a v).inChain = s.inChain := by
  unfold State.aput
  simp
@[simp] theorem State.aput_hi (s : State) (a v : Word) : (s.aput a v).hi = s.hi := by
  unfold State.aput
  simp
@[simp] theorem State.aput_lo (s : State) (a v : Word) : (s.aput a v).lo = s.lo := by
  unfold State.aput
  simp
@[simp] theorem State.aput_clockRunning (s : State) (a v : Word) : (s.aput a v).clockRunning = s.clockRunning := by
  unfold State.aput
  simp
@[simp] theorem State.aput_tickPhase (s : State) (a v : Word) : (s.aput a v).tickPhase = s.tickPhase := by
  unfold State.aput
  simp
@[simp] theorem State.aput_tsCount (s : State) (a v : Word) : (s.aput a v).tsCount = s.tsCount := by
  unfold State.aput
  simp
@[simp] theorem State.aput_intEnabled (s : State) (a v : Word) : (s.aput a v).intEnabled = s.intEnabled := by
  unfold State.aput
  simp
@[simp] theorem State.aput_conf (s : State) (a v : Word) : (s.aput a v).conf = s.conf := by
  unfold State.aput
  simp
@[simp] theorem State.aput_links (s : State) (a v : Word) : (s.aput a v).links = s.links := by
  unfold State.aput
  simp
@[simp] theorem State.aput_clink0 (s : State) (a v : Word) : (s.aput a v).clink0 = s.clink0 := by
  unfold State.aput
  simp
@[simp] theorem State.aput_clink1 (s : State) (a v : Word) : (s.aput a v).clink1 = s.clink1 := by
  unfold State.aput
  simp
@[simp] theorem State.aput_vcp (s : State) (a v : Word) : (s.aput a v).vcp = s.vcp := by
  unfold State.aput
  simp
@[simp] theorem State.aput_events (s : State) (a v : Word) : (s.aput a v).events = s.events := by
  unfold State.aput
  simp
@[simp] theorem State.aput_ctl (s : State) (a v : Word) : (s.aput a v).ctl = s.ctl := by
  unfold State.aput
  simp
@[simp] theorem State.aput_agenda (s : State) (a v : Word) : (s.aput a v).agenda = s.agenda := by
  unfold State.aput
  simp
@[simp] theorem State.aput_cpuMode (s : State) (a v : Word) : (s.aput a v).cpuMode = s.cpuMode := by
  unfold State.aput
  simp
@[simp] theorem State.aput_resuming (s : State) (a v : Word) : (s.aput a v).resuming = s.resuming := by
  unfold State.aput
  simp
@[simp] theorem State.aput_descheduled (s : State) (a v : Word) : (s.aput a v).descheduled = s.descheduled := by
  unfold State.aput
  simp
@[simp] theorem State.aput_rcTails (s : State) (a v : Word) : (s.aput a v).rcTails = s.rcTails := by
  unfold State.aput
  simp
@[simp] theorem State.aput_temps (s : State) (a v : Word) : (s.aput a v).temps = s.temps := by
  unfold State.aput
  simp
@[simp] theorem State.aput_draws (s : State) (a v : Word) : (s.aput a v).draws = s.draws := by
  unfold State.aput
  simp
@[simp] theorem State.aput_cache_ramSize (s : State) (a v : Word) : (s.aput a v).cache.ramSize = s.cache.ramSize := by
  unfold State.aput
  simp
@[simp] theorem State.aput_cache_locked (s : State) (a v : Word) : (s.aput a v).cache.locked = s.cache.locked := by
  unfold State.aput
  simp

@[simp] theorem State.watchWrite_mem (s : State) (a : Word) : (s.watchWrite a).mem = s.mem := by
  unfold State.watchWrite
  split <;> rfl
@[simp] theorem State.watchWrite_cache (s : State) (a : Word) : (s.watchWrite a).cache = s.cache := by
  unfold State.watchWrite
  split <;> rfl
@[simp] theorem State.watchWrite_ws (s : State) (a : Word) : (s.watchWrite a).ws = s.ws := by
  unfold State.watchWrite
  split <;> rfl
@[simp] theorem State.watchWrite_prefetch (s : State) (a : Word) : (s.watchWrite a).prefetch = s.prefetch := by
  unfold State.watchWrite
  split <;> rfl
@[simp] theorem State.watchWrite_trouble (s : State) (a : Word) : (s.watchWrite a).trouble = s.trouble := by
  unfold State.watchWrite
  split <;> rfl
@[simp] theorem State.watchWrite_sh (s : State) (a : Word) : (s.watchWrite a).sh = s.sh := by
  unfold State.watchWrite
  split <;> rfl
@[simp] theorem State.watchWrite_shadowValid (s : State) (a : Word) : (s.watchWrite a).shadowValid = s.shadowValid := by
  unfold State.watchWrite
  split <;> rfl
@[simp] theorem State.watchWrite_oreg (s : State) (a : Word) : (s.watchWrite a).oreg = s.oreg := by
  unfold State.watchWrite
  split <;> rfl
@[simp] theorem State.watchWrite_inChain (s : State) (a : Word) : (s.watchWrite a).inChain = s.inChain := by
  unfold State.watchWrite
  split <;> rfl
@[simp] theorem State.watchWrite_hi (s : State) (a : Word) : (s.watchWrite a).hi = s.hi := by
  unfold State.watchWrite
  split <;> rfl
@[simp] theorem State.watchWrite_lo (s : State) (a : Word) : (s.watchWrite a).lo = s.lo := by
  unfold State.watchWrite
  split <;> rfl
@[simp] theorem State.watchWrite_clockRunning (s : State) (a : Word) : (s.watchWrite a).clockRunning = s.clockRunning := by
  unfold State.watchWrite
  split <;> rfl
@[simp] theorem State.watchWrite_tickPhase (s : State) (a : Word) : (s.watchWrite a).tickPhase = s.tickPhase := by
  unfold State.watchWrite
  split <;> rfl
@[simp] theorem State.watchWrite_tsCount (s : State) (a : Word) : (s.watchWrite a).tsCount = s.tsCount := by
  unfold State.watchWrite
  split <;> rfl
@[simp] theorem State.watchWrite_intEnabled (s : State) (a : Word) : (s.watchWrite a).intEnabled = s.intEnabled := by
  unfold State.watchWrite
  split <;> rfl
@[simp] theorem State.watchWrite_conf (s : State) (a : Word) : (s.watchWrite a).conf = s.conf := by
  unfold State.watchWrite
  split <;> rfl
@[simp] theorem State.watchWrite_links (s : State) (a : Word) : (s.watchWrite a).links = s.links := by
  unfold State.watchWrite
  split <;> rfl
@[simp] theorem State.watchWrite_clink0 (s : State) (a : Word) : (s.watchWrite a).clink0 = s.clink0 := by
  unfold State.watchWrite
  split <;> rfl
@[simp] theorem State.watchWrite_clink1 (s : State) (a : Word) : (s.watchWrite a).clink1 = s.clink1 := by
  unfold State.watchWrite
  split <;> rfl
@[simp] theorem State.watchWrite_vcp (s : State) (a : Word) : (s.watchWrite a).vcp = s.vcp := by
  unfold State.watchWrite
  split <;> rfl
@[simp] theorem State.watchWrite_events (s : State) (a : Word) : (s.watchWrite a).events = s.events := by
  unfold State.watchWrite
  split <;> rfl
@[simp] theorem State.watchWrite_ctl (s : State) (a : Word) : (s.watchWrite a).ctl = s.ctl := by
  unfold State.watchWrite
  split <;> rfl
@[simp] theorem State.watchWrite_agenda (s : State) (a : Word) : (s.watchWrite a).agenda = s.agenda := by
  unfold State.watchWrite
  split <;> rfl
@[simp] theorem State.watchWrite_cpuMode (s : State) (a : Word) : (s.watchWrite a).cpuMode = s.cpuMode := by
  unfold State.watchWrite
  split <;> rfl
@[simp] theorem State.watchWrite_resuming (s : State) (a : Word) : (s.watchWrite a).resuming = s.resuming := by
  unfold State.watchWrite
  split <;> rfl
@[simp] theorem State.watchWrite_descheduled (s : State) (a : Word) : (s.watchWrite a).descheduled = s.descheduled := by
  unfold State.watchWrite
  split <;> rfl
@[simp] theorem State.watchWrite_rcTails (s : State) (a : Word) : (s.watchWrite a).rcTails = s.rcTails := by
  unfold State.watchWrite
  split <;> rfl
@[simp] theorem State.watchWrite_temps (s : State) (a : Word) : (s.watchWrite a).temps = s.temps := by
  unfold State.watchWrite
  split <;> rfl
@[simp] theorem State.watchWrite_draws (s : State) (a : Word) : (s.watchWrite a).draws = s.draws := by
  unfold State.watchWrite
  split <;> rfl

@[simp] theorem State.iput_sh (s : State) (a v : Word) : (s.iput a v).sh = s.sh := by
  unfold State.iput
  simp
@[simp] theorem State.iput_shadowValid (s : State) (a v : Word) : (s.iput a v).shadowValid = s.shadowValid := by
  unfold State.iput
  simp
@[simp] theorem State.iput_oreg (s : State) (a v : Word) : (s.iput a v).oreg = s.oreg := by
  unfold State.iput
  simp
@[simp] theorem State.iput_inChain (s : State) (a v : Word) : (s.iput a v).inChain = s.inChain := by
  unfold State.iput
  simp
@[simp] theorem State.iput_hi (s : State) (a v : Word) : (s.iput a v).hi = s.hi := by
  unfold State.iput
  simp
@[simp] theorem State.iput_lo (s : State) (a v : Word) : (s.iput a v).lo = s.lo := by
  unfold State.iput
  simp
@[simp] theorem State.iput_clockRunning (s : State) (a v : Word) : (s.iput a v).clockRunning = s.clockRunning := by
  unfold State.iput
  simp
@[simp] theorem State.iput_tickPhase (s : State) (a v : Word) : (s.iput a v).tickPhase = s.tickPhase := by
  unfold State.iput
  simp
@[simp] theorem State.iput_tsCount (s : State) (a v : Word) : (s.iput a v).tsCount = s.tsCount := by
  unfold State.iput
  simp
@[simp] theorem State.iput_intEnabled (s : State) (a v : Word) : (s.iput a v).intEnabled = s.intEnabled := by
  unfold State.iput
  simp
@[simp] theorem State.iput_conf (s : State) (a v : Word) : (s.iput a v).conf = s.conf := by
  unfold State.iput
  simp
@[simp] theorem State.iput_links (s : State) (a v : Word) : (s.iput a v).links = s.links := by
  unfold State.iput
  simp
@[simp] theorem State.iput_clink0 (s : State) (a v : Word) : (s.iput a v).clink0 = s.clink0 := by
  unfold State.iput
  simp
@[simp] theorem State.iput_clink1 (s : State) (a v : Word) : (s.iput a v).clink1 = s.clink1 := by
  unfold State.iput
  simp
@[simp] theorem State.iput_vcp (s : State) (a v : Word) : (s.iput a v).vcp = s.vcp := by
  unfold State.iput
  simp
@[simp] theorem State.iput_events (s : State) (a v : Word) : (s.iput a v).events = s.events := by
  unfold State.iput
  simp
@[simp] theorem State.iput_ctl (s : State) (a v : Word) : (s.iput a v).ctl = s.ctl := by
  unfold State.iput
  simp
@[simp] theorem State.iput_agenda (s : State) (a v : Word) : (s.iput a v).agenda = s.agenda := by
  unfold State.iput
  simp
@[simp] theorem State.iput_cpuMode (s : State) (a v : Word) : (s.iput a v).cpuMode = s.cpuMode := by
  unfold State.iput
  simp
@[simp] theorem State.iput_resuming (s : State) (a v : Word) : (s.iput a v).resuming = s.resuming := by
  unfold State.iput
  simp
@[simp] theorem State.iput_descheduled (s : State) (a v : Word) : (s.iput a v).descheduled = s.descheduled := by
  unfold State.iput
  simp
@[simp] theorem State.iput_rcTails (s : State) (a v : Word) : (s.iput a v).rcTails = s.rcTails := by
  unfold State.iput
  simp
@[simp] theorem State.iput_temps (s : State) (a v : Word) : (s.iput a v).temps = s.temps := by
  unfold State.iput
  simp
@[simp] theorem State.iput_draws (s : State) (a v : Word) : (s.iput a v).draws = s.draws := by
  unfold State.iput
  simp
@[simp] theorem State.iput_cache_ramSize (s : State) (a v : Word) : (s.iput a v).cache.ramSize = s.cache.ramSize := by
  unfold State.iput
  simp
@[simp] theorem State.iput_cache_locked (s : State) (a v : Word) : (s.iput a v).cache.locked = s.cache.locked := by
  unfold State.iput
  simp

/-- A cache of which only the recorded lines differ. -/
theorem Cache.eq_lines {c d : Cache} (hl : c.locked = d.locked) (hr : c.ramSize = d.ramSize) :
    c = { d with lines := c.lines } := by
  cases c
  cases d
  simp_all

/-! ## What an address reaches does not depend on what memory holds -/

theorem State.target_congr {s t : State} (hc : t.conf = s.conf) (hr : t.cache.ramSize = s.cache.ramSize)
    (hl : t.cache.locked = s.cache.locked) (a : Word) : t.target a = s.target a := by
  unfold State.target Cache.isRam Cache.relocked Cache.locks
  rw [hc, hr, hl]

theorem State.decoded_congr {s t : State} (hc : t.conf = s.conf) (hr : t.cache.ramSize = s.cache.ramSize)
    (hl : t.cache.locked = s.cache.locked) (dev wr : Bool) (a : Word) : t.decoded dev wr a = s.decoded dev wr a := by
  unfold State.decoded
  rw [State.target_congr hc hr hl]

theorem State.keeps_congr {s t : State} (hc : t.conf = s.conf) (hr : t.cache.ramSize = s.cache.ramSize)
    (hl : t.cache.locked = s.cache.locked) (a : Word) : t.keeps a = s.keeps a := by
  unfold State.keeps
  rw [State.target_congr hc hr hl]

/-- Whether ordinary memory lies at an address depends on the configuration, the cache's size and locks, and the
control blocks. -/
theorem State.ordinary_congr {s t : State} (hc : t.conf = s.conf) (hv : t.vcp = s.vcp)
    (hr : t.cache.ramSize = s.cache.ramSize) (hl : t.cache.locked = s.cache.locked) (a : Word) :
    t.ordinary a = s.ordinary a := by
  unfold State.ordinary State.outOfBounds State.inVlcb State.belowStart
  rw [hv, hc, State.keeps_congr hc hr hl, State.decoded_congr hc hr hl, State.decoded_congr hc hr hl]

/-- Ordinary memory in terms of the fields it depends on. -/
def ordinaryAt (v : Vcp) (size : BitVec 2) (locked : List (Nat × Nat)) (c : Conf) (a : Word) : Bool :=
  State.ordinary
    { State.reset with vcp := v, conf := c, cache := { lines := [], locked := locked, ramSize := size } } a

theorem State.ordinary_eq (s : State) (a : Word) :
    s.ordinary a = ordinaryAt s.vcp s.cache.ramSize s.cache.locked s.conf a :=
  State.ordinary_congr rfl rfl rfl rfl a

@[simp] theorem State.putWord_ordinary (s : State) (dev : Bool) (a v b : Word) :
    (s.putWord dev a v).ordinary b = s.ordinary b :=
  State.ordinary_congr (by simp) (by simp) (by simp) (by simp) b
@[simp] theorem State.agentPut_ordinary (s : State) (a v b : Word) :
    (s.agentPut a v).ordinary b = s.ordinary b :=
  State.ordinary_congr (by simp) (by simp) (by simp) (by simp) b
@[simp] theorem State.mput_ordinary (s : State) (a v b : Word) :
    (s.mput a v).ordinary b = s.ordinary b :=
  State.ordinary_congr (by simp) (by simp) (by simp) (by simp) b
@[simp] theorem State.aput_ordinary (s : State) (a v b : Word) :
    (s.aput a v).ordinary b = s.ordinary b :=
  State.ordinary_congr (by simp) (by simp) (by simp) (by simp) b
@[simp] theorem State.iput_ordinary (s : State) (a v b : Word) :
    (s.iput a v).ordinary b = s.ordinary b :=
  State.ordinary_congr (by simp) (by simp) (by simp) (by simp) b
@[simp] theorem State.touch_ordinary (s : State) (wr : Bool) (a b : Word) : (s.touch wr a).ordinary b = s.ordinary b :=
  State.ordinary_congr (by simp) (by simp) (by simp) (by simp) b

/-! ## A write to ordinary memory -/

theorem State.touch_trouble_of {s : State} {wr : Bool} {a : Word} (h : s.ordinary a = true) : (s.touch wr a).trouble = s.trouble := by
  rw [State.touch_of, State.reach_trouble]
  cases wr
  · exact (State.Plain.parts h).2.1
  · exact (State.Plain.parts h).2.2.1

theorem State.mput_trouble_of {s : State} {a v : Word} (h : s.ordinary a = true) : (s.mput a v).trouble = s.trouble := by
  rw [State.mput_of s a v h]

theorem State.mput_mem_of {s : State} {a v : Word} (h : s.ordinary a = true) : (s.mput a v).mem = s.mem.writeWord a v := by
  rw [State.mput_of s a v h]

theorem State.iput_trouble_of {s : State} {a v : Word} (h : s.ordinary a = true) : (s.iput a v).trouble = s.trouble := by
  unfold State.iput
  rw [State.watchWrite_trouble, State.mput_of]
  · simp [State.noteIf, State.Plain.inVlcb h]
  · rw [State.Plain, State.ordinary_congr (s := s) (by simp) (by simp) (by simp) (by simp) a]
    exact h

theorem State.iput_mem_of {s : State} {a v : Word} (h : s.ordinary a = true) : (s.iput a v).mem = s.mem.writeWord a v := by
  unfold State.iput
  rw [State.watchWrite_mem, State.mput_of]
  · simp [State.noteIf, State.Plain.inVlcb h]
  · rw [State.Plain, State.ordinary_congr (s := s) (by simp) (by simp) (by simp) (by simp) a]
    exact h

/-- A write that no enabled watchpoint sees leaves the registers alone. -/
theorem State.iput_r_of {s : State} {a v : Word} (hw : bitOf s.r.status sbWtchPntEnbl = false) : (s.iput a v).r = s.r := by
  unfold State.iput State.watchWrite
  simp [hw]

end Sys2Proof.Machine
end

