-- ==== Sys2Proof/Tests/Slice0.lean ====
section
/-! SUPPORT. Tests: the spec's encodings and examples, and states that meet the hypotheses of the obligations. -/

set_option Elab.async false

namespace Sys2Proof.Tests

open Sys2Proof Sys2Proof.Machine

/-! ## Well-formed terms (30_encoding.md R137) -/

/-- #F5 is the operation code of `add`: `opr` does not stand for it. -/
theorem test_wf_opr_assigned : (Instr.opr 0x05#32).wf = false := by decide +kernel

/-- A negative assigned code: −8 is `syscall`. -/
theorem test_wf_opr_assigned_negative : (Instr.opr 0xFFFFFFF8#32).wf = false := by decide +kernel

theorem test_wf_opr_unassigned : (Instr.opr 0xFF#32).wf = true := by decide +kernel

/-! ## Decoding: the bytes the spec prints for each instruction (opcode_table.json, column `bytes`) -/

/-- Every pair's bytes decode to its instruction, with nothing left. -/
def decodesTo (ps : List (List Byte × Instr)) : Bool := ps.all fun p =>
  match decode p.1 with
  | .ok (i, []) => i == p.2
  | _ => false

/-- The primary instructions with the data nibble 5 (R133); #2F #FF is an unassigned operation code (R137). -/
theorem test_decode_primary : decodesTo [
  ([0x05#8], .j 0x5#32), ([0x15#8], .ldlp 0x5#32), ([0x25#8], .pfix 0x5#4), ([0x35#8], .ldnl 0x5#32),
  ([0x45#8], .ldc 0x5#32), ([0x55#8], .ldnlp 0x5#32), ([0x65#8], .nfix 0x5#4), ([0x75#8], .ldl 0x5#32),
  ([0x85#8], .adc 0x5#32), ([0x95#8], .call 0x5#32), ([0xA5#8], .cj 0x5#32), ([0xB5#8], .ajw 0x5#32),
  ([0xC5#8], .eqc 0x5#32), ([0xD5#8], .stl 0x5#32), ([0xE5#8], .stnl 0x5#32), ([0x2F#8, 0xFF#8], .opr 0xFF#32)] = true := by decide +kernel

/-- The instructions of 47_vcp_config.md. -/
theorem test_decode_vcp : decodesTo [
  ([0x68#8, 0xFC#8], .ldprodid), ([0x62#8, 0xF0#8], .fdca), ([0x62#8, 0xF1#8], .ica), ([0x62#8, 0xF2#8], .fdcl),
  ([0x62#8, 0xF3#8], .icl), ([0x61#8, 0xF4#8], .readhdr), ([0x61#8, 0xF5#8], .writehdr),
  ([0x61#8, 0xF6#8], .initvlcb), ([0x61#8, 0xF7#8], .setchmode), ([0x61#8, 0xF8#8], .sethdr),
  ([0x61#8, 0xF9#8], .swapbfr), ([0x27#8, 0xFE#8], .ldmemstartval), ([0x2B#8, 0xFC#8], .insphdr),
  ([0x2B#8, 0xFD#8], .readbfr), ([0x2B#8, 0xFE#8], .ldconf), ([0x2B#8, 0xFF#8], .stconf),
  ([0x2C#8, 0xF3#8], .ldchstatus), ([0x21#8, 0x27#8, 0xFC#8], .lddevid)] = true := by decide +kernel

/-- The instructions of 41_control_blockmove.md. -/
theorem test_decode_control : decodesTo [
  ([0x63#8, 0xF0#8], .nop), ([0x62#8, 0xF4#8], .devmove), ([0x61#8, 0xF0#8], .stmove2dinit), ([0xF6#8], .gcall),
  ([0x22#8, 0xF0#8], .ret), ([0x22#8, 0xF1#8], .lend), ([0x23#8, 0xFC#8], .gajw), ([0x24#8, 0xFA#8], .move),
  ([0x25#8, 0xFB#8], .move2dinit), ([0x25#8, 0xFC#8], .move2dall), ([0x25#8, 0xFD#8], .move2dnonzero),
  ([0x25#8, 0xFE#8], .move2dzero), ([0x2F#8, 0xF0#8], .devlb), ([0x2F#8, 0xF1#8], .devsb),
  ([0x2F#8, 0xF2#8], .devls), ([0x2F#8, 0xF3#8], .devss), ([0x2F#8, 0xF4#8], .devlw), ([0x2F#8, 0xF5#8], .devsw)] = true := by decide +kernel

/-- The instructions of 43_channels_alt.md. -/
theorem test_decode_channels : decodesTo [
  ([0x62#8, 0xF8#8], .ldresptr), ([0x62#8, 0xF9#8], .stresptr), ([0x62#8, 0xFA#8], .erdsq),
  ([0x62#8, 0xFB#8], .irdsq), ([0x62#8, 0xFC#8], .mkrc), ([0x62#8, 0xFD#8], .unmkrc), ([0x61#8, 0xF1#8], .grant),
  ([0x61#8, 0xF2#8], .enbg), ([0x61#8, 0xF3#8], .disg), ([0x61#8, 0xFC#8], .vin), ([0x61#8, 0xFD#8], .vout),
  ([0x61#8, 0xFE#8], .stopch), ([0xF7#8], .input), ([0xFB#8], .output), ([0xFE#8], .outbyte), ([0xFF#8], .outword),
  ([0x21#8, 0xF2#8], .resetch), ([0x22#8, 0xFE#8], .dist), ([0x22#8, 0xFF#8], .disc), ([0x23#8, 0xF0#8], .diss),
  ([0x24#8, 0xF3#8], .alt), ([0x24#8, 0xF4#8], .altwt), ([0x24#8, 0xF5#8], .altend), ([0x24#8, 0xF7#8], .enbt),
  ([0x24#8, 0xF8#8], .enbc), ([0x24#8, 0xF9#8], .enbs), ([0x24#8, 0xFE#8], .talt), ([0x25#8, 0xF1#8], .taltwt),
  ([0x2C#8, 0xF0#8], .ldcnt), ([0x2C#8, 0xF9#8], .chantype)] = true := by decide +kernel

/-- The instructions of 44_protection_trap.md. -/
theorem test_decode_protection : decodesTo [
  ([0x62#8, 0xFE#8], .restart), ([0x62#8, 0xFF#8], .causeerror), ([0x60#8, 0xF8#8], .syscall),
  ([0x60#8, 0xF9#8], .selth), ([0x60#8, 0xFA#8], .goprot), ([0x60#8, 0xFB#8], .tret), ([0x2B#8, 0xF6#8], .ldflags),
  ([0x2B#8, 0xF7#8], .stflags), ([0x2C#8, 0xF2#8], .ldth)] = true := by decide +kernel

/-- The instructions of 42_process_sched.md. -/
theorem test_decode_process : decodesTo [
  ([0x60#8, 0xF0#8], .swapqueue), ([0x60#8, 0xF1#8], .swaptimer), ([0x60#8, 0xF2#8], .insertqueue),
  ([0x60#8, 0xF3#8], .timeslice), ([0x60#8, 0xF4#8], .signal), ([0x60#8, 0xF5#8], .wait),
  ([0x60#8, 0xFC#8], .ldshadow), ([0x60#8, 0xFD#8], .stshadow), ([0xF3#8], .endp), ([0xFD#8], .startp),
  ([0x21#8, 0xF5#8], .stopp), ([0x21#8, 0xFE#8], .ldpri), ([0x22#8, 0xF2#8], .ldtimer),
  ([0x22#8, 0xFA#8], .testpranal), ([0x22#8, 0xFB#8], .tin), ([0x23#8, 0xF9#8], .runp), ([0x25#8, 0xF4#8], .sttimer),
  ([0x2B#8, 0xF0#8], .settimeslice), ([0x2C#8, 0xF4#8], .intdis), ([0x2C#8, 0xF5#8], .intenb)] = true := by decide +kernel

/-- The instructions of 46_floating_point_ops.md. -/
theorem test_decode_float : decodesTo [
  ([0x60#8, 0xFE#8], .fpldall), ([0x60#8, 0xFF#8], .fpstall), ([0x28#8, 0xF2#8], .fpldnldbi),
  ([0x28#8, 0xF4#8], .fpstnldb), ([0x28#8, 0xF6#8], .fpldnlsni), ([0x28#8, 0xF7#8], .fpadd),
  ([0x28#8, 0xF8#8], .fpstnlsn), ([0x28#8, 0xF9#8], .fpsub), ([0x28#8, 0xFA#8], .fpldnldb),
  ([0x28#8, 0xFB#8], .fpmul), ([0x28#8, 0xFC#8], .fpdiv), ([0x28#8, 0xFD#8], .fprange),
  ([0x28#8, 0xFE#8], .fpldnlsn), ([0x29#8, 0xF1#8], .fpnan), ([0x29#8, 0xF2#8], .fpordered),
  ([0x29#8, 0xF3#8], .fpnotfinite), ([0x29#8, 0xF4#8], .fpgt), ([0x29#8, 0xF5#8], .fpeq),
  ([0x29#8, 0xF6#8], .fpi32tor32), ([0x29#8, 0xF7#8], .fpge), ([0x29#8, 0xF8#8], .fpi32tor64),
  ([0x29#8, 0xFA#8], .fpb32tor64), ([0x29#8, 0xFB#8], .fplg), ([0x29#8, 0xFD#8], .fprtoi32),
  ([0x29#8, 0xFE#8], .fpstnli32), ([0x29#8, 0xFF#8], .fpldzerosn), ([0x2A#8, 0xF0#8], .fpldzerodb),
  ([0x2A#8, 0xF1#8], .fpint), ([0x2A#8, 0xF3#8], .fpdup), ([0x2A#8, 0xF4#8], .fprev),
  ([0x2A#8, 0xF6#8], .fpldnladddb), ([0x2A#8, 0xF8#8], .fpldnlmuldb), ([0x2A#8, 0xFA#8], .fpldnladdsn),
  ([0x2A#8, 0xFC#8], .fpldnlmulsn), ([0x2C#8, 0xFF#8], .fprem), ([0x2D#8, 0xF0#8], .fprn),
  ([0x2D#8, 0xF1#8], .fpdivby2), ([0x2D#8, 0xF2#8], .fpmulby2), ([0x2D#8, 0xF3#8], .fpsqrt), ([0x2D#8, 0xF4#8], .fprp)] = true := by decide +kernel

/-- The instructions of 46_floating_point_ops.md. -/
theorem test_decode_float_2 : decodesTo [
  ([0x2D#8, 0xF5#8], .fprm), ([0x2D#8, 0xF6#8], .fprz), ([0x2D#8, 0xF7#8], .fpr32tor64),
  ([0x2D#8, 0xF8#8], .fpr64tor32), ([0x2D#8, 0xF9#8], .fpexpdec32), ([0x2D#8, 0xFA#8], .fpexpinc32),
  ([0x2D#8, 0xFB#8], .fpabs), ([0x2D#8, 0xFD#8], .fpadddbsn), ([0x2D#8, 0xFE#8], .fpchki32),
  ([0x2D#8, 0xFF#8], .fpchki64)] = true := by decide +kernel

/-- The instructions of 40_integer.md. -/
theorem test_decode_integer : decodesTo [
  ([0xF0#8], .rev), ([0xF1#8], .lb), ([0xF2#8], .bsub), ([0xF4#8], .diff), ([0xF5#8], .add), ([0xF8#8], .prod),
  ([0xF9#8], .gt), ([0xFA#8], .wsub), ([0xFC#8], .sub), ([0x21#8, 0xF3#8], .csub0), ([0x21#8, 0xF6#8], .ladd),
  ([0x21#8, 0xF9#8], .norm), ([0x21#8, 0xFA#8], .ldiv), ([0x21#8, 0xFB#8], .ldpi), ([0x21#8, 0xFD#8], .xdble),
  ([0x21#8, 0xFF#8], .rem), ([0x22#8, 0xFC#8], .div), ([0x23#8, 0xF1#8], .lmul), ([0x23#8, 0xF2#8], .not),
  ([0x23#8, 0xF3#8], .xor), ([0x23#8, 0xF4#8], .bcnt), ([0x23#8, 0xF5#8], .lshr), ([0x23#8, 0xF6#8], .lshl),
  ([0x23#8, 0xF7#8], .lsum), ([0x23#8, 0xF8#8], .lsub), ([0x23#8, 0xFA#8], .xword), ([0x23#8, 0xFB#8], .sb),
  ([0x23#8, 0xFF#8], .wcnt), ([0x24#8, 0xF0#8], .shr), ([0x24#8, 0xF1#8], .shl), ([0x24#8, 0xF2#8], .mint),
  ([0x24#8, 0xF6#8], .and), ([0x24#8, 0xFB#8], .or), ([0x24#8, 0xFC#8], .csngl), ([0x24#8, 0xFD#8], .ccnt1),
  ([0x24#8, 0xFF#8], .ldiff), ([0x25#8, 0xF2#8], .sum), ([0x25#8, 0xF3#8], .mul), ([0x25#8, 0xF6#8], .cword),
  ([0x25#8, 0xFA#8], .dup)] = true := by decide +kernel

/-- The instructions of 40_integer.md. -/
theorem test_decode_integer_2 : decodesTo [
  ([0x25#8, 0xFF#8], .gtu), ([0x27#8, 0xF2#8], .fmul), ([0x27#8, 0xF4#8], .crcword), ([0x27#8, 0xF5#8], .crcbyte),
  ([0x27#8, 0xF6#8], .bitcnt), ([0x27#8, 0xF7#8], .bitrevword), ([0x27#8, 0xF8#8], .bitrevnbits),
  ([0x27#8, 0xF9#8], .pop), ([0x28#8, 0xF1#8], .wsubdb), ([0x2B#8, 0xF8#8], .xbword), ([0x2B#8, 0xF9#8], .lbx),
  ([0x2B#8, 0xFA#8], .cb), ([0x2B#8, 0xFB#8], .cbu), ([0x2C#8, 0xF1#8], .ssub), ([0x2C#8, 0xF7#8], .cir),
  ([0x2C#8, 0xF8#8], .ss), ([0x2C#8, 0xFA#8], .ls), ([0x2C#8, 0xFC#8], .ciru), ([0x2F#8, 0xF8#8], .xsword),
  ([0x2F#8, 0xF9#8], .lsx), ([0x2F#8, 0xFA#8], .cs), ([0x2F#8, 0xFB#8], .csu)] = true := by decide +kernel

/-- Operands built by prefixes: prefixes and negative prefixes (R132, R140, R141). -/
theorem test_decode_operands : decodesTo [([0x27#8, 0x25#8, 0x44#8], .ldc 0x754#32),
  ([0x60#8, 0x4F#8], .ldc 0xFFFFFFFF#32), ([0x61#8, 0x4F#8], .ldc 0xFFFFFFEF#32),
  ([0x60#8, 0xBC#8], .ajw 0xFFFFFFFC#32)] = true := by decide +kernel

/-! ## One step on a small state -/

/-- A low priority L-process at #80001000 that has just fetched the instruction at #80000100: the control word, the
integer stack, the trap-handler, the next instruction, and words of memory. -/
def st (status a b c th iptr : Word) (cells : List (Word × Word)) : State :=
  { State.reset with
    r := { Regs.reset with
      status := status, wdesc := 0x80001001#32, iptr := iptr, eptr := 0x80000100#32, areg := a, breg := b, creg := c
      th := th, round := 1#2 }
    conf := { Conf.reset with memStart := 0x80000400#32, minInvalidChannel := 0x80000060#32 }
    ctl := { Control.reset with gross := .running }
    mem := cells.foldl (fun m x => m.writeWord x.1 x.2) [] }

/-- The handler used below, at #80002000: entry #80000500. -/
abbrev handlerAt : Word := 0x80002000#32

/-- A state with no error trapped and no handler. -/
abbrev plainSt (a b c : Word) (cells : List (Word × Word)) : State := st 0#32 a b c 0x80000000#32 0x80000101#32 cells

/-- A state with the default control word and a handler. -/
abbrev trapSt (a b c : Word) : State :=
  st 0x80#32 a b c handlerAt 0x80000101#32 [(handlerAt, 0x80#32), (0x80002004#32, 0x80000500#32)]

/-- The instruction has a next state, of which `p` holds. -/
def next (i : Instr) (s : State) (p : State → Bool) : Bool :=
  match exec i s with
  | .next t => p t
  | _ => false

/-- The instruction leaves `v` in Areg, and the listed values in Breg and Creg where they are defined, without a trap. -/
def leaves (i : Instr) (a b c v : Word) (bc : List Word) (status : Word) : Bool :=
  next i (plainSt a b c []) fun t => t.r.areg == v && t.r.status == status && t.r.iptr == 0x80000101#32 &&
    (match bc with
      | [] => true
      | [x] => t.r.breg == x
      | x :: y :: _ => t.r.breg == x && t.r.creg == y)

/-- The instruction enters the handler with this reason and error type. (What the memory holds then is for the obligations:
the reserved bits of the control word saved are any values.) -/
def entersHandler (i : Instr) (s : State) (reason et : Word) : Bool :=
  next i s fun t => t.r.wdesc == 0x80002001#32 && t.r.areg == reason && t.r.breg == et && t.r.th == 0x80000000#32 &&
    t.r.status == 0x80#32

/-- With the null handler the instruction halts the processor with this reason and error type (60_exceptions.md R740). -/
def halts (i : Instr) (s : State) (reason et : Word) : Bool :=
  next i s fun t => t.conf.reason == reason && t.ctl.haltError == et && t.ctl.gross == .error && t.r.areg == s.r.areg

/-! ### 40_integer.md: the examples of the rules and 95_test_vectors.md 2.2 -/

theorem test_integer_stack : [leaves (.ldc 7#32) 1#32 2#32 3#32 7#32 [1#32, 2#32] 0#32,
  leaves (.ldlp 3#32) 1#32 2#32 3#32 0x8000100C#32 [1#32, 2#32] 0#32,
  leaves .rev 1#32 2#32 3#32 2#32 [1#32, 3#32] 0#32, leaves .pop 1#32 2#32 3#32 2#32 [3#32] 0#32,
  leaves .dup 1#32 2#32 3#32 1#32 [1#32, 2#32] 0#32, leaves .mint 1#32 2#32 3#32 0x80000000#32 [1#32, 2#32] 0#32,
  leaves .ldpi 0x10#32 0#32 0#32 0x80000111#32 [] 0#32, leaves (.ldnlp 3#32) 0x80002000#32 1#32 2#32 0x8000200C#32 [1#32] 0#32,
  leaves .bsub 0x80000100#32 5#32 9#32 0x80000105#32 [9#32] 0#32,
  leaves .ssub 0x80000100#32 5#32 9#32 0x8000010A#32 [9#32] 0#32,
  leaves .wsub 0x80000100#32 0xFFFFFFFF#32 9#32 0x800000FC#32 [9#32] 0#32,
  leaves .wsubdb 0x80000100#32 3#32 9#32 0x80000118#32 [9#32] 0#32, leaves .bcnt 8#32 0#32 0#32 32#32 [] 0#32,
  leaves .wcnt 0x80000007#32 9#32 0#32 0xE0000001#32 [3#32, 9#32] 0#32,
  leaves .wcnt 0x7FFFFFFE#32 9#32 0#32 0x1FFFFFFF#32 [2#32, 9#32] 0#32].all id = true := by decide +kernel

theorem test_integer_checked : [leaves (.adc 1#32) 0x7FFFFFFF#32 2#32 3#32 0x80000000#32 [2#32, 3#32] 0x40#32,
  leaves (.adc 0xFFFFFFFD#32) 5#32 2#32 3#32 2#32 [2#32, 3#32] 0#32,
  leaves .add 0x80000000#32 0x80000000#32 9#32 0#32 [9#32] 0x40#32, leaves .add 3#32 2#32 9#32 5#32 [9#32] 0#32,
  leaves .sub 0x80000000#32 0#32 9#32 0x80000000#32 [9#32] 0x40#32, leaves .sub 3#32 10#32 9#32 7#32 [9#32] 0#32,
  leaves .mul 0x7FFFFFFF#32 0x7FFFFFFF#32 9#32 1#32 [9#32] 0x40#32,
  leaves .mul 4#32 0xFFFFFFFD#32 9#32 0xFFFFFFF4#32 [9#32] 0#32,
  leaves .div 2#32 0xFFFFFFF9#32 9#32 0xFFFFFFFD#32 [9#32] 0#32,
  leaves .div 0xFFFFFFFE#32 0xFFFFFFF9#32 9#32 3#32 [9#32] 0#32,
  leaves .rem 0xFFFFFFFF#32 0x80000000#32 9#32 0#32 [9#32] 0#32,
  leaves .rem 0xFFFFFFFE#32 0xFFFFFFF9#32 9#32 0xFFFFFFFF#32 [9#32] 0#32,
  leaves .fmul 0x40000000#32 0x40000000#32 9#32 0x20000000#32 [9#32] 0#32,
  leaves .fmul 1#32 0x40000000#32 9#32 0#32 [9#32] 0#32, leaves .fmul 3#32 0x40000000#32 9#32 2#32 [9#32] 0#32,
  leaves .fmul 0x7FFFFFFF#32 0x7FFFFFFF#32 9#32 0x7FFFFFFE#32 [9#32] 0#32].all id = true := by decide +kernel

/-- A result the spec leaves undefined: only the flag and the pop can be tested. -/
theorem test_integer_undefined : [Instr.div, .rem].all (fun i => next i (plainSt 0#32 5#32 9#32 []) fun t =>
  t.r.status == 0x40#32 && t.r.breg == 9#32) = true := by decide +kernel

theorem test_integer_logic : [leaves .sum 2#32 0xFFFFFFFF#32 9#32 1#32 [9#32] 0#32,
  leaves .diff 1#32 0#32 9#32 0xFFFFFFFF#32 [9#32] 0#32, leaves .prod 0x10001#32 0x10001#32 9#32 0x20001#32 [9#32] 0#32,
  leaves .and 0xFF00#32 0xF0F0#32 9#32 0xF000#32 [9#32] 0#32, leaves .or 0xFF00#32 0xF0F0#32 9#32 0xFFF0#32 [9#32] 0#32,
  leaves .xor 0xFF00#32 0xF0F0#32 9#32 0xFF0#32 [9#32] 0#32, leaves .not 0#32 1#32 2#32 0xFFFFFFFF#32 [1#32, 2#32] 0#32,
  leaves .shl 31#32 0xFFFFFFFF#32 9#32 0x80000000#32 [9#32] 0#32, leaves .shl 32#32 1#32 9#32 0#32 [9#32] 0#32,
  leaves .shl 0xFFFFFFFF#32 0xFFFFFFFF#32 9#32 0#32 [9#32] 0#32, leaves .shr 31#32 0x80000000#32 9#32 1#32 [9#32] 0#32,
  leaves .shr 32#32 0xFFFFFFFF#32 9#32 0#32 [9#32] 0#32, leaves (.eqc 0xFFFFFFFF#32) 0xFFFFFFFF#32 1#32 2#32 1#32 [1#32] 0#32,
  leaves .gt 0x7FFFFFFF#32 0x80000000#32 9#32 0#32 [9#32] 0#32, leaves .gt 2#32 3#32 9#32 1#32 [9#32] 0#32,
  leaves .gtu 0x7FFFFFFF#32 0x80000000#32 9#32 1#32 [9#32] 0#32].all id = true := by decide +kernel

theorem test_integer_long : [leaves .ladd 0x80000000#32 0xFFFFFFFF#32 0#32 0x7FFFFFFF#32 [] 0x40#32,
  leaves .ladd 1#32 2#32 0xFFFFFFFF#32 4#32 [] 0#32, leaves .lsub 0#32 0#32 0xFFFFFFFE#32 0#32 [] 0#32,
  leaves .lsub 2#32 5#32 1#32 2#32 [] 0#32, leaves .lsum 0xFFFFFFFF#32 0xFFFFFFFF#32 1#32 0xFFFFFFFF#32 [1#32] 0#32,
  leaves .lsum 0#32 0#32 3#32 1#32 [0#32] 0#32, leaves .ldiff 5#32 5#32 1#32 0xFFFFFFFF#32 [1#32] 0#32,
  leaves .lmul 0xFFFFFFFF#32 0xFFFFFFFF#32 0xFFFFFFFF#32 0#32 [0xFFFFFFFF#32] 0#32,
  leaves .lmul 0xFFFFFFFF#32 2#32 5#32 3#32 [2#32] 0#32,
  leaves .ldiv 0xFFFFFFFF#32 0xFFFFFFFF#32 0xFFFFFFFE#32 0xFFFFFFFF#32 [0xFFFFFFFE#32] 0#32,
  leaves .ldiv 7#32 3#32 5#32 0xB6DB6DB7#32 [2#32] 0#32, leaves .lshl 32#32 2#32 1#32 0#32 [2#32] 0#32,
  leaves .lshl 64#32 2#32 1#32 0#32 [0#32] 0#32, leaves .lshr 32#32 2#32 1#32 1#32 [0#32] 0#32,
  leaves .lshr 63#32 0#32 0x80000000#32 1#32 [0#32] 0#32, leaves .norm 0#32 0#32 9#32 0#32 [0#32, 64#32] 0#32,
  leaves .norm 0x8000#32 0#32 9#32 0#32 [0x80000000#32, 48#32] 0#32,
  leaves .norm 0x80000000#32 1#32 9#32 0#32 [0xC0000000#32, 31#32] 0#32].all id = true := by decide +kernel

theorem test_integer_parts : [leaves .xdble 5#32 7#32 9#32 5#32 [0#32, 7#32] 0#32,
  leaves .xdble 0x80000000#32 7#32 9#32 0x80000000#32 [0xFFFFFFFF#32, 7#32] 0#32,
  leaves .csngl 0xFFFFFFFF#32 0xFFFFFFFF#32 9#32 0xFFFFFFFF#32 [9#32] 0#32,
  leaves .xbword 0x12345680#32 1#32 2#32 0xFFFFFF80#32 [1#32] 0#32, leaves .xsword 0xFFFF#32 1#32 2#32 0xFFFFFFFF#32 [1#32] 0#32,
  leaves .cb 0xFFFFFF80#32 1#32 2#32 0xFFFFFF80#32 [1#32, 2#32] 0#32, leaves .cbu 255#32 1#32 2#32 255#32 [1#32, 2#32] 0#32,
  leaves .cs 0xFFFF8000#32 1#32 2#32 0xFFFF8000#32 [1#32] 0#32, leaves .csu 65535#32 1#32 2#32 65535#32 [1#32] 0#32,
  leaves .xword 0x200#32 0x3FF#32 9#32 0xFFFFFFFF#32 [9#32] 0#32, leaves .xword 0x200#32 0x1FF#32 9#32 0x1FF#32 [9#32] 0#32,
  leaves .cword 4#32 0xFFFFFFFC#32 9#32 0xFFFFFFFC#32 [9#32] 0#32,
  leaves .cword 0x80000000#32 5#32 9#32 5#32 [9#32] 0#32, leaves .csub0 4#32 3#32 9#32 3#32 [9#32] 0#32,
  leaves .ccnt1 4#32 4#32 9#32 4#32 [9#32] 0#32, leaves .cir 0xFFFFFFE5#32 104#32 0xFFFFFFE5#32 0xFFFFFFE5#32 [] 0#32,
  leaves .ciru 1#32 0xFFFFFFFF#32 0xFFFFFFFF#32 0xFFFFFFFF#32 [] 0#32].all id = true := by decide +kernel

theorem test_integer_bits : [leaves .bitcnt 0xDEADBEEF#32 0#32 9#32 24#32 [9#32] 0#32,
  leaves .bitcnt 0xFFFFFFFF#32 0xFFFFFFF0#32 9#32 0x10#32 [9#32] 0#32,
  leaves .bitrevword 0x12345678#32 1#32 2#32 0x1E6A2C48#32 [1#32, 2#32] 0#32,
  leaves .bitrevnbits 8#32 0xDEADBEEF#32 9#32 0xF7#32 [9#32] 0#32, leaves .bitrevnbits 0#32 0xFFFFFFFF#32 9#32 0#32 [9#32] 0#32,
  leaves .crcword 0#32 0x80000000#32 0x04C11DB7#32 0xA6E63D1D#32 [0x04C11DB7#32] 0#32,
  leaves .crcword 0x80000000#32 0#32 0x04C11DB7#32 0x80000000#32 [0x04C11DB7#32] 0#32,
  leaves .crcbyte 0x01000000#32 0xFFFFFFFF#32 0x04C11DB7#32 0x4E08BFB5#32 [0x04C11DB7#32] 0#32].all id = true := by
  decide +kernel

/-- The checks of R222 to R233 just outside their ranges. -/
theorem test_integer_errors : [(Instr.cb, 128#32, 0#32, 0#32), (.cb, 0xFFFFFF7F#32, 0#32, 0#32), (.cbu, 256#32, 0#32, 0#32),
  (.cs, 32768#32, 0#32, 0#32), (.csu, 65536#32, 0#32, 0#32), (.csngl, 0x80000000#32, 0#32, 0#32), (.cword, 4#32, 4#32, 0#32),
  (.csub0, 0#32, 0#32, 0#32), (.ccnt1, 4#32, 0#32, 0#32), (.ccnt1, 4#32, 5#32, 0#32), (.cir, 0xFFFFFFE5#32, 104#32, 105#32),
  (.ciru, 0#32, 104#32, 0xFFFFFFE5#32)].all
    (fun x => halts x.1 (plainSt x.2.1 x.2.2.1 x.2.2.2 []) 0#32 5#32) = true := by decide +kernel

/-- IntegerOverflow trapped (R178 (a); 95 2.2). -/
theorem test_integer_overflow_traps : [(Instr.add, 1#32, 0x7FFFFFFF#32, 0#32), (.div, 0xFFFFFFFF#32, 0x80000000#32, 0#32),
  (.rem, 0#32, 5#32, 0#32), (.fmul, 0x80000000#32, 0x80000000#32, 0#32), (.ldiv, 7#32, 0#32, 7#32),
  (.ldiv, 0#32, 1#32, 0#32)].all
    (fun x => halts x.1 (st 0x80#32 x.2.1 x.2.2.1 x.2.2.2 0x80000000#32 0x80000101#32 []) 0#32 6#32) = true := by decide +kernel

/-! ### Loads and stores (40_integer.md, 20_memory.md R84, R176) -/

theorem test_loads : [
  next (.ldl 2#32) (plainSt 1#32 2#32 3#32 [(0x80001008#32, 0x12345678#32)]) fun t =>
    t.r.areg == 0x12345678#32 && t.r.breg == 1#32 && t.r.creg == 2#32,
  next (.ldnl 2#32) (plainSt 0x80002000#32 2#32 3#32 [(0x80002008#32, 9#32)]) fun t => t.r.areg == 9#32 && t.r.breg == 2#32,
  next (.ldnl 0#32) (plainSt 0x80002002#32 2#32 3#32 [(0x80002000#32, 9#32)]) fun t => t.r.areg == 9#32,
  next .lb (plainSt 0x80000703#32 2#32 3#32 [(0x80000700#32, 0xF0000000#32)]) fun t => t.r.areg == 0xF0#32,
  next .lbx (plainSt 0x80000703#32 2#32 3#32 [(0x80000700#32, 0xF0000000#32)]) fun t => t.r.areg == 0xFFFFFFF0#32,
  next .ls (plainSt 0x80000702#32 2#32 3#32 [(0x80000700#32, 0xF2340000#32)]) fun t => t.r.areg == 0xF234#32,
  next .lsx (plainSt 0x80000703#32 2#32 3#32 [(0x80000700#32, 0xF2340000#32)]) fun t => t.r.areg == 0xFFFFF234#32].all id =
  true := by decide +kernel

theorem test_stores : [
  next (.stl 1#32) (plainSt 5#32 6#32 7#32 []) fun t => t.wordAt 0x80001004#32 == 5#32 && t.r.areg == 6#32 && t.r.breg == 7#32,
  next (.stnl 1#32) (plainSt 0x80002000#32 0x55#32 7#32 []) fun t => t.wordAt 0x80002004#32 == 0x55#32 && t.r.areg == 7#32,
  next .sb (plainSt 0x80000701#32 0x12345678#32 4#32 [(0x80000700#32, 0xAABBCCDD#32)]) fun t =>
    t.wordAt 0x80000700#32 == 0xAABB78DD#32 && t.r.areg == 4#32,
  next .ss (plainSt 0x80000702#32 0x12345678#32 4#32 [(0x80000700#32, 0xAABBCCDD#32)]) fun t =>
    t.wordAt 0x80000700#32 == 0x5678CCDD#32 && t.r.areg == 4#32].all id = true := by decide +kernel

/-- A misaligned operand with Unalign trapped (20_memory.md R84). -/
theorem test_unalign_traps :
    halts .ls (st 0x80000#32 0x80000101#32 0#32 0#32 0x80000000#32 0x80000101#32 []) 0#32 3#32 = true := by decide +kernel

/-- A device store (R280). -/
theorem test_devsw : next .devsw (plainSt 0x80001000#32 0x12345678#32 4#32 []) (fun t =>
  t.wordAt 0x80001000#32 == 0x12345678#32 && t.r.areg == 4#32) = true := by decide +kernel

/-! ### Control and block moves (41_control_blockmove.md; 95 2.3) -/

theorem test_control : [
  next (.j 3#32) (plainSt 1#32 2#32 3#32 []) fun t => t.r.iptr == 0x80000104#32,
  next (.cj 4#32) (plainSt 0#32 7#32 8#32 []) fun t => t.r.iptr == 0x80000105#32 && t.r.areg == 0#32 && t.r.breg == 7#32,
  next (.cj 4#32) (plainSt 0x80000000#32 7#32 8#32 []) fun t =>
    t.r.iptr == 0x80000101#32 && t.r.areg == 7#32 && t.r.breg == 8#32,
  next .gcall (plainSt 0x80003000#32 7#32 8#32 []) fun t => t.r.iptr == 0x80003000#32 && t.r.areg == 0x80000101#32,
  next .ret (plainSt 1#32 2#32 3#32 [(0x80001000#32, 0x80000201#32)]) fun t =>
    t.r.iptr == 0x80000201#32 && t.r.wdesc == 0x80001011#32 && t.r.areg == 1#32,
  next (.ajw 4#32) (plainSt 1#32 2#32 3#32 []) fun t => t.r.wdesc == 0x80001011#32,
  next .gajw (plainSt 0x80003002#32 2#32 3#32 []) fun t => t.r.wdesc == 0x80003001#32 && t.r.areg == 0x80001000#32,
  next .nop (plainSt 1#32 2#32 3#32 []) fun t => t.r.areg == 1#32 && t.r.iptr == 0x80000101#32].all id = true := by
  decide +kernel

theorem test_call : next (.call 0#32) (plainSt 1#32 2#32 3#32 []) (fun t => t.r.wdesc == 0x80000FF1#32 &&
  t.r.areg == 0x80000101#32 && t.wordAt 0x80000FF0#32 == 0x80000101#32 && t.wordAt 0x80000FF4#32 == 1#32 &&
  t.wordAt 0x80000FF8#32 == 2#32 && t.wordAt 0x80000FFC#32 == 3#32) = true := by decide +kernel

/-- `lend` with le.Count 2, 1, 0 and #80000000: the count after it, the index, whether it loops (R268). -/
theorem test_lend : [(2#32, 1#32, true), (1#32, 0#32, false), (0#32, 0xFFFFFFFF#32, false),
  (0x80000000#32, 0x7FFFFFFF#32, true)].all (fun x =>
    next .lend (plainSt 0x10#32 0x80001000#32 0#32 [(0x80001000#32, 4#32), (0x80001004#32, x.1)]) fun t =>
      t.wordAt 0x80001004#32 == x.2.1 && t.wordAt 0x80001000#32 == (if x.2.2 then 5#32 else 4#32) &&
      t.r.iptr == (if x.2.2 then 0x800000F1#32 else 0x80000101#32)) = true := by decide +kernel

theorem test_move : next .move (plainSt 3#32 0x80002011#32 0x80002000#32
  [(0x80002000#32, 0x44332211#32), (0x80002010#32, 0xFFFFFFFF#32)]) (fun t =>
    t.wordAt 0x80002010#32 == 0x332211FF#32) = true := by decide +kernel

/-- One row of two bytes, `00 5A` over `77 88`: all, only the non-zero, only the zero bytes (R287 to R289). -/
theorem test_move2d : [(Instr.move2dall, 0x5A00#32), (.move2dnonzero, 0x5A77#32), (.move2dzero, 0x8800#32)].all (fun x =>
  let s := plainSt 2#32 0x80002000#32 0x80002100#32 [(0x80002000#32, 0x8877#32), (0x80002100#32, 0x5A00#32)]
  next x.1 { s with r := { s.r with bm0 := 1#32, bm1 := 4#32, bm2 := 8#32 } } fun t =>
    t.wordAt 0x80002000#32 == x.2) = true := by decide +kernel

/-! ### Traps (44_protection_trap.md, 60_exceptions.md; 95 2.6 and 2.7) -/

theorem test_explicit_traps : [(Instr.syscall, 8#32, 0#32), (.causeerror, 0xC#32, 6#32), (.j 0#32, 2#32, 0#32)].all (fun x =>
  entersHandler x.1 (trapSt 6#32 2#32 3#32) x.2.1 x.2.2) = true := by decide +kernel

/-- What a trap saves of the stack and of Iptr (R720, R730): after an instruction, and before one, where th.sIptr keeps its
value. -/
theorem test_saves : [(Saves.after, 0x80000101#32), (.before, 0#32)].all (fun x =>
    let t := (trapSt 6#32 2#32 3#32).saveTrapped x.1 (handlerAt + 28#32) (handlerAt + 16#32)
    t.wordAt 0x80002010#32 == 0x80000100#32 && t.wordAt 0x8000201C#32 == 0x80001000#32 && t.wordAt 0x80002020#32 == x.2 &&
    t.wordAt 0x80002024#32 == 6#32 && t.wordAt 0x80002028#32 == 2#32 && t.wordAt 0x8000202C#32 == 3#32) = true := by
  decide +kernel

/-- An unassigned operation code (R706). -/
theorem test_illegal_instruction : entersHandler (.opr 0xFF#32) (trapSt 1#32 2#32 3#32) 0#32 2#32 = true := by decide +kernel

theorem test_causeerror_14 : halts .causeerror (plainSt 14#32 0#32 0#32 []) 0#32 5#32 = true := by decide +kernel

/-- Single-stepping `ldc 1` (R482): reason #14. -/
theorem test_single_step :
    let s := { trapSt 7#32 2#32 3#32 with r := { (trapSt 7#32 2#32 3#32).r with status := 0x04000080#32 } }
    entersHandler (.ldc 1#32) s 0x14#32 0#32 = true := by decide +kernel

/-- A watched store traps at its end with reason 5 (R484). -/
theorem test_watchpoint :
    let s := trapSt 7#32 2#32 3#32
    let s := { s with r := { s.r with status := 0x20000080#32, wl := 0x80001004#32, wu := 0x80001004#32 } }
    (next (.stl 1#32) s fun t => t.r.areg == 5#32 && t.r.breg == 0#32 && t.r.wdesc == 0x80002001#32) =
    true := by decide +kernel

theorem test_flags : (next .ldflags (st 0x84#32 1#32 2#32 3#32 0x80000000#32 0x80000101#32 []) (fun t => t.r.areg == 0x84#32) &&
  next .stflags (st 0x44#32 0xFFFFFFFF#32 2#32 3#32 0x80000000#32 0x80000101#32 []) (fun t =>
    t.r.status == 0x000BFFCC#32 && t.r.areg == 2#32) &&
  next .ldth (trapSt 1#32 2#32 3#32) fun t => t.r.areg == handlerAt && t.r.breg == 1#32) = true := by decide +kernel

/-- `selth` (95 2.6): the status comes from the new handler. -/
theorem test_selth : next .selth (plainSt 0x80003000#32 2#32 3#32 [(0x80003000#32, 0x00080080#32)])
  (fun t => t.r.th == 0x80003000#32 && t.r.status == 0x00080080#32) = true := by decide +kernel

/-- `tret` of a handler at #80001000 resumes the trapped process (R467). -/
theorem test_tret : next .tret (plainSt 0#32 2#32 3#32 [(0x80001000#32, 0x80000080#32), (0x80001008#32, 0x80000000#32),
    (0x8000101C#32, 0x80000F00#32), (0x80001020#32, 0x80000404#32), (0x80001024#32, 11#32)]) (fun t =>
  t.r.th == 0x80001000#32 && t.r.wdesc == 0x80000F01#32 && t.r.iptr == 0x80000404#32 &&
    t.r.areg == 11#32 && t.wordAt 0x80001000#32 == 0x80#32) = true := by decide +kernel

/-- The example of R456: `goprot`. -/
def goprotSt : State := plainSt 0x80002000#32 0x80002040#32 0#32 [(0x80002000#32, 0x80#32), (0x80002010#32, 0x10100#32),
  (0x80002014#32, 0x20000#32), (0x80002018#32, 1#32), (0x8000201C#32, 2#32), (0x80002020#32, 3#32),
  (0x80002040#32, 0x80018003#32), (0x80002044#32, 0x80000000#32), (0x80002048#32, 0x80000000#32),
  (0x8000204C#32, 0x80000000#32)]

theorem test_goprot : next .goprot goprotSt (fun t => t.wordAt 0x80000FFC#32 == 0x80000101#32 && t.r.wstub == 0x80001001#32 &&
  t.r.pstate == 0x80002000#32 && t.r.wdesc == 0x10101#32 && t.r.iptr == 0x20000#32 && t.r.areg == 1#32 &&
  t.r.region.q0 == 0x80018003#32) = true := by decide +kernel

/-- The same P-process at a `syscall`: its supervisor resumes (R456, R724). -/
def protectedSt : State :=
  { goprotSt with
    r := { goprotSt.r with
      status := 0x08000080#32, wdesc := 0x10101#32, iptr := 0x20002#32, eptr := 0x20000#32, areg := 1#32, breg := 2#32
      creg := 3#32, pstate := 0x80002000#32, wstub := 0x80001001#32
      region := ⟨0x80018003#32, 0x80000000#32, 0x80000000#32, 0x80000000#32⟩ }
    mem := goprotSt.mem.writeWord 0x80000FFC#32 0x80000502#32 }

theorem test_supervisor : next .syscall protectedSt (fun t => t.r.wdesc == 0x80001001#32 && t.r.areg == 8#32 &&
  t.r.breg == 0#32 && t.r.status == 0x80#32) = true := by decide +kernel

/-- A privileged instruction in a P-process (95 2.6), with and without a watchpoint pending (60 R708). -/
theorem test_privileged : (next .input protectedSt (fun t => t.r.areg == 0#32 && t.r.breg == 1#32) &&
  next .input { protectedSt with r := { protectedSt.r with status := 0x48000080#32 } } fun t => t.r.areg == 1#32 &&
    t.r.breg == 1#32) = true := by decide +kernel

/-- Translation (95 2.6; 20_memory.md R122). -/
theorem test_translate : translateWith 0x00283806#32 false .read 0xBFFFF1C5#32 = .ok 0x002831C5#32 ∧
    translateWith 0x00283806#32 false .write 0xBFFFF1C5#32 = .violation ∧
    translateWith 0x00283806#32 false .fetch 0xBFFFF1C5#32 = .ok 0x002831C5#32 ∧
    translateWith 0x00283806#32 false .read 0xBFFFE1C5#32 = .violation ∧
    translateWith 0x80018001#32 false .read 0x1234#32 = .ok 0x80011234#32 ∧
    translateWith 0x80018001#32 false .read 0x10000#32 = .violation ∧
    translateWith 0x80018001#32 false .fetch 0#32 = .violation ∧
    translateWith 0x80000000#32 false .read 0x40000000#32 = .violation := by decide +kernel

/-! ### Processes (42_process_sched.md; 95 2.4) -/

/-- `plainSt` with the low priority list #80001100 … #80001300. -/
def listed (a b c : Word) (cells : List (Word × Word)) : State :=
  { plainSt a b c cells with lo := { Sched.reset with fptr := 0x80001100#32, bptr := 0x80001300#32, clock := 1000#32 } }

theorem test_startp : next .startp (listed 0x80001500#32 0x20#32 0#32 []) (fun t => t.wordAt 0x800014FC#32 == 0x80000121#32 &&
  t.wordAt 0x800014F4#32 == 0x80000000#32 && t.wordAt 0x800012F8#32 == 0x80001500#32 && t.lo.bptr == 0x80001500#32 &&
  t.lo.fptr == 0x80001100#32) = true := by decide +kernel

theorem test_runp : next .runp (plainSt 0x80001500#32 0#32 0#32 []) (fun t => t.hi.fptr == 0x80001500#32 &&
  t.hi.bptr == 0x80001500#32) = true := by decide +kernel

theorem test_endp_last : next .endp (plainSt 0x80001200#32 0#32 0#32 [(0x80001200#32, 0x8000031C#32), (0x80001204#32, 1#32)])
  (fun t => t.wordAt 0x80001204#32 == 0#32 && t.r.iptr == 0x8000031C#32 && t.r.wdesc == 0x80001201#32) = true := by
  decide +kernel

theorem test_stopp : next .stopp (plainSt 0#32 0#32 0#32 []) (fun t => t.wordAt 0x80000FFC#32 == 0x80000101#32 &&
  t.wordAt 0x80000FF4#32 == 0x80000000#32 && t.r.wdesc == 0x80000000#32) = true := by decide +kernel

theorem test_queues : (next .swaptimer { plainSt 1#32 0x80000000#32 0#32 [] with
      lo := { Sched.reset with tptr := 0x80001100#32 } } (fun t => t.r.areg == 0x80001100#32 && t.lo.tptr == 0x80000000#32) &&
  next .swapqueue (listed 1#32 0x80000000#32 0#32 []) (fun t => t.r.areg == 0x80001100#32 && t.r.breg == 0x80001300#32 &&
    t.lo.fptr == 0x80000000#32) &&
  next .insertqueue (listed 1#32 0x80001500#32 0x80001500#32 []) fun t => t.wordAt 0x800014F8#32 == 0x80001100#32 &&
    t.lo.fptr == 0x80001500#32) = true := by decide +kernel

theorem test_semaphores : (next .wait (plainSt 0x80001200#32 0#32 0#32 [(0x80001200#32, 2#32)]) (fun t =>
    t.wordAt 0x80001200#32 == 1#32) &&
  next .wait (plainSt 0x80001200#32 0#32 0#32 [(0x80001204#32, 0x80000000#32)]) (fun t =>
    t.wordAt 0x80001204#32 == 0x80001001#32 && t.wordAt 0x80001208#32 == 0x80001001#32 && t.r.wdesc == 0x80000000#32) &&
  next .signal (plainSt 0x80001200#32 0#32 0#32 [(0x80001204#32, 0x80000000#32)]) (fun t => t.wordAt 0x80001200#32 == 1#32) &&
  next .signal (plainSt 0x80001200#32 0#32 0#32 [(0x80001204#32, 0x80001101#32), (0x80001208#32, 0x80001101#32)]) fun t =>
    t.lo.fptr == 0x80001100#32 && t.wordAt 0x80001204#32 == 0x80000000#32 && t.wordAt 0x80001200#32 == 0#32) = true := by
  decide +kernel

/-- `tin` with the clock at 1000: past at 999, queued for 1001 at 1000 (R355). -/
theorem test_tin : let s (a : Word) : State := { plainSt a 0#32 0#32 [] with lo := { Sched.reset with clock := 1000#32 } }
    (next .tin (s 999#32) (fun t => t.r.wdesc == 0x80001001#32) && next .tin (s 1000#32) fun t =>
      t.wordAt 0x80000FF0#32 == 0x80000001#32 && t.wordAt 0x80000FE8#32 == 1001#32 && t.lo.tptr == 0x80001000#32 &&
      t.r.wdesc == 0x80000000#32) = true := by decide +kernel

theorem test_clocks : (next .sttimer (plainSt 100#32 2#32 3#32 []) (fun t => t.hi.clock == 100#32 && t.lo.clock == 100#32 &&
    t.clockRunning && t.r.areg == 2#32) &&
  next .ldtimer (listed 1#32 2#32 3#32 []) (fun t => t.r.areg == 1000#32) &&
  next .ldpri (plainSt 5#32 2#32 3#32 []) (fun t => t.r.areg == 1#32 && t.r.breg == 5#32) &&
  next .settimeslice (plainSt 0#32 2#32 3#32 []) (fun t => t.r.status == 0x02000000#32 && t.r.areg == 1#32) &&
  next .intdis (plainSt 0#32 2#32 3#32 []) fun t => !t.intEnabled) = true := by decide +kernel

/-! ### Channels and alternatives (43_channels_alt.md; 95 2.5) -/

theorem test_chantype : [(0x80001000#32, 1#32), (0x80000044#32, 0#32), (0x8000005C#32, 0#32), (0x80000020#32, 0#32),
  (0x8000001C#32, 0#32)].all (fun x => next .chantype (plainSt x.1 0#32 0#32 []) fun t => t.r.areg == x.2) = true := by
  decide +kernel

theorem test_chantype_invalid : halts .chantype (plainSt 0x80000060#32 0#32 0#32 []) 0#32 5#32 = true := by decide +kernel

/-- The first process to come waits in the channel word (95: `in` first). -/
theorem test_input_first : next .input (plainSt 4#32 0x80001200#32 0x80003000#32 [(0x80001200#32, 0x80000000#32)]) (fun t =>
  t.wordAt 0x80001200#32 == 0x80001001#32 && t.wordAt 0x80000FF0#32 == 0x80003000#32 &&
  t.wordAt 0x80000FFC#32 == 0x80000101#32 && t.r.wdesc == 0x80000000#32) = true := by decide +kernel

/-- The second copies (95: `out` second). -/
theorem test_output_second : next .output (plainSt 4#32 0x80001200#32 0x80003010#32 [(0x80001200#32, 0x80002001#32),
    (0x80001FF0#32, 0x80003000#32), (0x80003010#32, 0x11223344#32)]) (fun t => t.wordAt 0x80003000#32 == 0x11223344#32 &&
  t.wordAt 0x80001200#32 == 0x80000000#32 && t.lo.fptr == 0x80002000#32) = true := by decide +kernel

/-- `vin` of 6 bytes with room for 16: the length is in pw.Length (R394). -/
theorem test_vin_second : next .vin (plainSt 16#32 0x80001200#32 0x80003000#32 [(0x80001200#32, 0x80002001#32),
    (0x80001FF0#32, 0x80003010#32), (0x80001FF8#32, 6#32), (0x80003010#32, 0x11223344#32), (0x80003014#32, 0x55667788#32)])
  (fun t => t.r.wdesc == 0x80001001#32 && t.lo.fptr == 0x80002000#32) = true := by decide +kernel

theorem test_ldcnt : (next .ldcnt (plainSt 1#32 2#32 3#32 [(0x80000FF0#32, 6#32)]) (fun t => t.r.areg == 6#32 &&
  t.r.breg == 1#32 && t.r.creg == 2#32) && halts .ldcnt (plainSt 1#32 2#32 3#32 [(0x80000FF0#32, 0xFFFFFFFF#32)]) 0#32 5#32) =
  true := by decide +kernel

theorem test_alt_start : (next .alt (plainSt 0#32 0#32 0#32 []) (fun t => t.wordAt 0x80000FF0#32 == 0x80000001#32) &&
  next .talt (plainSt 0#32 0#32 0#32 []) (fun t => t.wordAt 0x80000FEC#32 == 0x80000002#32) &&
  next .enbs (plainSt 1#32 0#32 0#32 []) (fun t => t.wordAt 0x80000FF0#32 == 0x80000003#32) &&
  next .enbc (plainSt 1#32 0x80001200#32 0#32 [(0x80001200#32, 0x80000000#32)]) (fun t =>
    t.wordAt 0x80001200#32 == 0x80001001#32) &&
  next .enbc (plainSt 1#32 0x80001200#32 0#32 [(0x80001200#32, 0x80005000#32)]) (fun t =>
    t.wordAt 0x80000FF0#32 == 0x80000003#32) &&
  next .enbt (plainSt 1#32 900#32 0#32 [(0x80000FEC#32, 0x80000001#32), (0x80000FE8#32, 1000#32)]) fun t =>
    t.wordAt 0x80000FE8#32 == 900#32) = true := by decide +kernel

theorem test_alt_wait : (next .altwt (plainSt 0#32 0#32 0#32 [(0x80000FF0#32, 0x80000003#32)]) (fun t =>
    t.wordAt 0x80001000#32 == 0xFFFFFFFF#32 && t.r.wdesc == 0x80001001#32) &&
  next .altwt (plainSt 0#32 0#32 0#32 [(0x80000FF0#32, 0x80000001#32)]) (fun t =>
    t.wordAt 0x80000FF0#32 == 0x80000002#32 && t.r.wdesc == 0x80000000#32) &&
  next .taltwt { plainSt 0#32 0#32 0#32 [(0x80000FF0#32, 0x80000001#32), (0x80000FEC#32, 0x80000001#32), (0x80000FE8#32, 400#32)]
      with lo := { Sched.reset with clock := 500#32 } } (fun t =>
    t.wordAt 0x80000FF0#32 == 0x80000003#32 && t.wordAt 0x80000FE8#32 == 500#32)) = true := by decide +kernel

theorem test_alt_end : (next .disc (plainSt 20#32 1#32 0x80001200#32 [(0x80001200#32, 0x80005000#32), (0x80001000#32, 0xFFFFFFFF#32)])
    (fun t => t.wordAt 0x80001000#32 == 20#32 && t.r.areg == 1#32) &&
  next .disc (plainSt 24#32 1#32 0x80001200#32 [(0x80001200#32, 0x80005000#32), (0x80001000#32, 20#32)])
    (fun t => t.wordAt 0x80001000#32 == 20#32 && t.r.areg == 0#32) &&
  next .disc (plainSt 20#32 1#32 0x80001200#32 [(0x80001200#32, 0x80001001#32)])
    (fun t => t.wordAt 0x80001200#32 == 0x80000000#32 && t.r.areg == 0#32) &&
  next .diss (plainSt 12#32 1#32 0#32 [(0x80001000#32, 0xFFFFFFFF#32)]) (fun t => t.wordAt 0x80001000#32 == 12#32 &&
    t.r.areg == 1#32) &&
  next .dist (plainSt 4#32 1#32 400#32 [(0x80001000#32, 0xFFFFFFFF#32), (0x80000FEC#32, 0x80000001#32), (0x80000FE8#32, 500#32)])
    (fun t => t.wordAt 0x80001000#32 == 4#32 && t.r.areg == 1#32) &&
  next .altend (plainSt 0#32 0#32 0#32 [(0x80001000#32, 12#32)]) fun t => t.r.iptr == 0x8000010D#32) = true := by decide +kernel

/-- An idle channel takes the address in Breg, at which nothing decodes here, without reading there (R427). -/
theorem test_resources : (next .mkrc (plainSt 0x80001200#32 0x7E000000#32 7#32 [(0x80001200#32, 0x80000000#32),
    (0x80001208#32, 0x80000000#32)]) (fun t => t.wordAt 0x80001208#32 == 7#32 && t.wordAt 0x80001204#32 == 0x7E000000#32 &&
    t.wordAt 0x80001200#32 == 0x80000002#32 && t.ctl.gross == .running) &&
  next .grant (plainSt 0x80001300#32 0x80002010#32 0#32 [(0x80001304#32, 0x80001200#32), (0x80001308#32, 0x80001200#32),
    (0x80001208#32, 7#32)]) (fun t => t.wordAt 0x80002010#32 == 7#32 && t.wordAt 0x80001304#32 == 0x80000000#32) &&
  next .unmkrc (plainSt 0x80001200#32 0#32 0#32 [(0x80001200#32, 0x80000002#32), (0x80001208#32, 7#32)]) (fun t =>
    t.wordAt 0x80001200#32 == 0x80000000#32 && t.wordAt 0x80001208#32 == 0x80000000#32) &&
  next .resetch (plainSt 0x80001200#32 0#32 0#32 [(0x80001200#32, 0x80002001#32)]) fun t => t.r.areg == 0x80002001#32 &&
    t.wordAt 0x80001200#32 == 0x80000000#32) = true := by decide +kernel

/-! ### Floating point (95 2.8) -/

/-- `plainSt` with FPBreg and FPAreg and a rounding mode. -/
def fpSt (b a : FpEntry) (mode : BitVec 2) : State :=
  { plainSt 1#32 2#32 3#32 [] with r := { (plainSt 1#32 2#32 3#32 []).r with fpB := b, fpA := a, round := mode } }

/-- A single-precision dyadic operation in a mode: its result and the flags set. -/
def fpGives (i : Instr) (mode : BitVec 2) (b a v flags : Word) : Bool :=
  next i (fpSt (single b) (single a) mode) fun t => t.r.fpA == single v && t.r.status == flags && t.r.round == 1#2

theorem test_fp_rounding : [fpGives .fpadd 1#2 0x3DCCCCCD#32 0x3E4CCCCD#32 0x3E99999A#32 0x10000#32,
  fpGives .fpadd 0#2 0x3DCCCCCD#32 0x3E4CCCCD#32 0x3E999999#32 0x10000#32,
  fpGives .fpadd 2#2 0x3DCCCCCD#32 0x3E4CCCCD#32 0x3E99999A#32 0x10000#32,
  fpGives .fpadd 3#2 0x3DCCCCCD#32 0x3E4CCCCD#32 0x3E999999#32 0x10000#32,
  fpGives .fpdiv 1#2 0x3F800000#32 0x40400000#32 0x3EAAAAAB#32 0x10000#32,
  fpGives .fpdiv 2#2 0xBF800000#32 0x40400000#32 0xBEAAAAAA#32 0x10000#32,
  fpGives .fpdiv 3#2 0xBF800000#32 0x40400000#32 0xBEAAAAAB#32 0x10000#32].all id = true := by decide +kernel

theorem test_fp_exceptions : [fpGives .fpdiv 1#2 0x3F800000#32 0#32 0x7F800000#32 0x404#32,
  fpGives .fpdiv 1#2 0#32 0#32 0x7FC00000#32 0x104#32, fpGives .fpmul 1#2 0#32 0x7F800000#32 0x7FD00000#32 0x104#32,
  fpGives .fpadd 1#2 0x7F800000#32 0xFF800000#32 0x7FC80000#32 0x104#32,
  fpGives .fpadd 1#2 0x7F800000#32 0x3F800000#32 0x7F800000#32 4#32,
  fpGives .fpadd 1#2 0x7F7FFFFF#32 0x7F7FFFFF#32 0x7F800000#32 0x11004#32,
  fpGives .fpadd 0#2 0x7F7FFFFF#32 0x7F7FFFFF#32 0x7F7FFFFF#32 0x11004#32,
  fpGives .fpmul 1#2 1#32 0x3F000000#32 0#32 0x14000#32, fpGives .fprem 1#2 0x40A00000#32 0x40400000#32 0xBF800000#32 0#32,
  fpGives .fpsub 1#2 0x40A00000#32 0x40400000#32 0x40000000#32 0#32,
  fpGives .fprem 1#2 0x40A00000#32 0#32 0x7FC02000#32 0x104#32].all id = true := by decide +kernel

theorem test_fp_monadic : [fpGives .fpsqrt 1#2 0#32 0xBF800000#32 0x7FC40000#32 0x104#32,
  fpGives .fpsqrt 1#2 0#32 0x80000000#32 0x80000000#32 0#32, fpGives .fpsqrt 1#2 0#32 0x40000000#32 0x3FB504F3#32 0x10000#32,
  fpGives .fpint 1#2 0#32 0x40200000#32 0x40000000#32 0x10000#32, fpGives .fpint 1#2 0#32 0x40600000#32 0x40800000#32 0x10000#32,
  fpGives .fpint 0#2 0#32 0xBE99999A#32 0x80000000#32 0x10000#32, fpGives .fpabs 1#2 0#32 0xBF800000#32 0x3F800000#32 0#32,
  fpGives .fpmulby2 1#2 0#32 0x3F800000#32 0x40000000#32 0#32, fpGives .fpdivby2 1#2 0#32 0x3F800000#32 0x3F000000#32 0#32,
  fpGives .fpexpinc32 1#2 0#32 0x3F800000#32 0x4F800000#32 0#32, fpGives .fpexpdec32 1#2 0#32 0x3F800000#32 0x2F800000#32 0#32,
  fpGives .fprtoi32 1#2 0#32 0x4F32D05E#32 0x4F32D05E#32 0x104#32].all id = true := by decide +kernel

theorem test_fp_compare : [(Instr.fpgt, 0x40000000#32, 0x3F800000#32, 1#32, 0#32), (.fpgt, 0x7FC00000#32, 0x3F800000#32, 0#32, 0x104#32),
  (.fpeq, 0#32, 0x80000000#32, 1#32, 0#32), (.fpeq, 0x7FC00000#32, 0x3F800000#32, 0#32, 4#32),
  (.fpge, 0x3F800000#32, 0x3F800000#32, 1#32, 0#32), (.fplg, 0x3F800000#32, 0x40000000#32, 1#32, 0#32),
  (.fpordered, 0x7FC00000#32, 0x3F800000#32, 0#32, 4#32), (.fpnan, 0#32, 0x7FC00000#32, 1#32, 0#32),
  (.fpnotfinite, 0#32, 0x7F800000#32, 1#32, 0#32)].all (fun x => next x.1 (fpSt (single x.2.1) (single x.2.2.1) 1#2) fun t =>
    t.r.areg == x.2.2.2.1 && t.r.breg == 1#32 && t.r.status == x.2.2.2.2) = true := by decide +kernel

theorem test_fp_convert : (next .fpr32tor64 (fpSt (single 0#32) (single 0x7F800001#32) 1#2) (fun t =>
    t.r.fpA == double 0x7FF8000020000000#64 && t.r.status == 0x104#32) &&
  next .fpr32tor64 (fpSt (single 0#32) (single 0x3FC00000#32) 1#2) (fun t => t.r.fpA == double 0x3FF8000000000000#64) &&
  next .fpr64tor32 (fpSt (single 0#32) (double 0x7FF8000000000000#64) 1#2) (fun t =>
    t.r.fpA == single 0x7FC20000#32 && t.r.status == 4#32) &&
  next .fpadddbsn (fpSt (double 0x3FF8000000000000#64) (double 0x4000000000000000#64) 1#2) fun t =>
    t.r.fpA == single 0x40600000#32 && t.r.status == 0#32) = true := by decide +kernel

/-- `plainSt` with Areg at a word and FPAreg. -/
def fpMem (a : FpEntry) (mode : BitVec 2) (w0 w1 : Word) : State :=
  let s := plainSt 0x80003000#32 2#32 3#32 [(0x80003000#32, w0), (0x80003004#32, w1)]
  { s with r := { s.r with fpA := a, round := mode } }

theorem test_fp_loads : (next .fpldnlsn (fpMem (single 5#32) 0#2 0x3FC00000#32 0#32) (fun t => t.r.fpA == single 0x3FC00000#32 &&
    t.r.fpB == single 5#32 && t.r.round == 1#2 && t.r.areg == 2#32) &&
  next .fpldnldb (fpMem (single 5#32) 0#2 0x54442D18#32 0x400921FB#32) (fun t => t.r.fpA == double 0x400921FB54442D18#64) &&
  next .fpi32tor64 (fpMem (single 5#32) 1#2 0xFFFFFFFF#32 0#32) (fun t => t.r.fpA == double 0xBFF0000000000000#64) &&
  next .fpb32tor64 (fpMem (single 5#32) 1#2 0xFFFFFFFF#32 0#32) (fun t => t.r.fpA == double 0x41EFFFFFFFE00000#64) &&
  next .fpi32tor32 (fpMem (single 5#32) 1#2 0x01000001#32 0#32) (fun t => t.r.fpA == single 0x4B800000#32 &&
    t.r.status == 0x10000#32) &&
  next .fpi32tor32 (fpMem (single 5#32) 2#2 0x01000001#32 0#32) (fun t => t.r.fpA == single 0x4B800001#32) &&
  next .fpldnladdsn (fpMem (single 0x3FC00000#32) 1#2 0x40000000#32 0#32) fun t => t.r.fpA == single 0x40600000#32) = true := by
  decide +kernel

theorem test_fp_stores : (next .fpstnlsn (fpMem (single 0x40600000#32) 1#2 0#32 0#32) (fun t =>
    t.wordAt 0x80003000#32 == 0x40600000#32 && t.r.areg == 2#32) &&
  next .fpstnldb (fpMem (double 0x400921FB54442D18#64) 1#2 0#32 0#32) (fun t => t.wordAt 0x80003000#32 == 0x54442D18#32 &&
    t.wordAt 0x80003004#32 == 0x400921FB#32) &&
  next .fpstnli32 (fpMem (single 0xBF800000#32) 1#2 0#32 0#32) fun t => t.wordAt 0x80003000#32 == 0xFFFFFFFF#32) = true := by
  decide +kernel

/-- The rounding mode (R532 to R535) and the stack moves (R530, R531). -/
theorem test_fp_mode : (next .fprz (fpSt (single 1#32) (single 2#32) 1#2) (fun t => t.r.round == 0#2) &&
  next .fprp (fpSt (single 1#32) (single 2#32) 1#2) (fun t => t.r.round == 2#2) &&
  next .fprm (fpSt (single 1#32) (single 2#32) 1#2) (fun t => t.r.round == 3#2) &&
  next .fpdup (fpSt (single 1#32) (double 2#64) 0#2) (fun t => t.r.fpA == double 2#64 && t.r.fpB == double 2#64 &&
    t.r.fpC == single 1#32 && t.r.round == 1#2) &&
  next .fprev (fpSt (single 1#32) (double 2#64) 0#2) fun t => t.r.fpA == single 1#32 && t.r.fpB == double 2#64) = true := by
  decide +kernel

/-- An FP trap leaves the operands (R518): with FPError trapped, `fpadd` of an infinity halts under the null handler. -/
theorem test_fp_trap : next .fpadd { fpSt (single 0x7F800000#32) (single 0x3F800000#32) 0#2 with
    r := { (fpSt (single 0x7F800000#32) (single 0x3F800000#32) 0#2).r with status := 8#32 } } (fun t =>
  t.ctl.haltError == 7#32 && t.r.fpB == single 0x7F800000#32 && t.r.round == 0#2 && t.r.status == 8#32) = true := by
  decide +kernel

/-! ### Virtual links, configuration, cache (95 2.9) -/

/-- `plainSt` with the record of virtual link 0 set up. -/
def linked (a b c : Word) (v : Vlcb) : State :=
  let s := plainSt a b c []
  { s with vcp := { s.vcp with vlcbs := [(0, v)] } }

/-- A record: link 2, the one-byte header #05. -/
def headed : Vlcb :=
  { null := false, link := 2#2, offset := 0xFFFFFFFF#32, hlen := 1#8, h0 := 5#8, h1 := 0#8, h2 := 0#8, buffer := 0x800000C0#32
    held := none, inp := ChanEnd.init, out := ChanEnd.init }

theorem test_vlcb : (next .initvlcb (plainSt 0x80000044#32 0x800000C0#32 7#32 []) (fun t =>
    (t.vlcb 0).buffer == 0x800000C0#32 && (t.vlcb 0).null && t.r.areg == 7#32) &&
  next .sethdr (linked 0x80000040#32 1#32 0xFFFFFFFF#32 headed) (fun t => (t.vlcb 0).link == 1#2) &&
  next .insphdr (linked 0x80000040#32 1#32 2#32 headed) (fun t => t.r.areg == 2#32 && t.r.breg == 1#32 &&
    t.r.creg == 0xFFFFFFFF#32) &&
  next .swapbfr (linked 0x80000040#32 0x80002000#32 9#32 headed) (fun t => t.r.areg == 0x800000C0#32 && t.r.breg == 9#32 &&
    (t.vlcb 0).buffer == 0x80002000#32) &&
  next .readhdr (linked 0x80000040#32 1#32 0x80003000#32 headed) (fun t => t.byteAt 0x80003000#32 == 5#8) &&
  next .setchmode (linked 0x80000044#32 1#32 9#32 headed) (fun t => (t.vlcb 0).out.active && !(t.vlcb 0).inp.active &&
    t.r.areg == 9#32) &&
  next .setchmode (plainSt 0x80000024#32 0#32 9#32 []) fun t => t.wordAt 0x80000020#32 == 0x80000001#32) = true := by
  decide +kernel

theorem test_vlcb_errors : [(Instr.initvlcb, 0x80000060#32, 0x800000C0#32, 0#32), (.sethdr, 0x80000040#32, 4#32, 0#32),
  (.writehdr, 0x80000040#32, 0x100#32, 0#32), (.swapbfr, 0x80000044#32, 0#32, 0#32), (.setchmode, 0x80001000#32, 0#32, 0#32),
  (.readhdr, 0x80000040#32, 2#32, 0#32)].all (fun x => halts x.1 (linked x.2.1 x.2.2.1 x.2.2.2 headed) 0#32 5#32) = true := by
  decide +kernel

theorem test_conf : (next .stconf (plainSt 0x010F#32 0x80000063#32 7#32 []) (fun t => t.conf.minInvalidChannel == 0x80000060#32 &&
    t.r.areg == 7#32) &&
  next .ldmemstartval (plainSt 1#32 2#32 3#32 []) (fun t => t.r.areg == 0x80000400#32) &&
  next .ldconf (plainSt 0x0111#32 2#32 3#32 []) (fun t => t.r.breg == 2#32) &&
  halts .ldconf (plainSt 0x0100#32 2#32 3#32 []) 0#32 5#32 && halts .ldconf (plainSt 0x00010111#32 2#32 3#32 []) 0#32 5#32 &&
  halts .stconf { plainSt 0x010F#32 0x80000060#32 7#32 [] with conf := { Conf.reset with chanWriteLock := true } } 0#32 5#32) =
  true := by decide +kernel

/-- A cache line with a dirty word, of which external memory holds 9: `fdca` keeps what is read and cleans the line, `ica`
gives external memory's word back (R680, R682). -/
def cachedSt (a : Word) : State :=
  let s := plainSt a 0x80000000#32 0x7FFFFFFF#32 [(0x80010008#32, 5#32)]
  { s with
    cache := { s.cache with
      ramSize := 1#2, lines := [⟨some 200, 0x08001000, ⟨false, false, true, false⟩, ⟨0#32, 0#32, 9#32, 0#32⟩⟩] } }

theorem test_cache : (next .fdca (cachedSt 0x80010004#32) (fun t => t.r.areg == 0x80010014#32 && t.wordAt 0x80010008#32 == 5#32 &&
    t.cache.lines.all fun l => l.dirty == .all false) &&
  next .ica (cachedSt 0x80010004#32) fun t => t.r.areg == 0x80010014#32 && t.wordAt 0x80010008#32 == 9#32 &&
    t.cache.lines.isEmpty) = true := by decide +kernel

/-! ### The step, the boot, the host's interface -/

/-- A step fetches, decodes and runs (30_encoding.md R146: `ldc -31` is `61 41`). -/
theorem test_step : (match step { plainSt 1#32 2#32 3#32 [(0x80000100#32, 0x41610000#32)] with
      r := { (plainSt 1#32 2#32 3#32 []).r with iptr := 0x80000102#32 } } with
    | .next t => t.r.areg == 0xFFFFFFE1#32 && t.r.iptr == 0x80000104#32 && t.r.eptr == 0x80000102#32
    | _ => false) = true := by decide +kernel

/-- A command that the control unit has accepted. -/
def commandSt (g : Gross) (c : Command) : State :=
  { plainSt 0#32 0#32 0#32 [] with
    ctl := { Control.reset with gross := g, label := some 1#16, returnHeader := some 2#16, inProgress := some c }
    agenda := [.handshake] }

/-- *Run* on CLink0 with Wptr #80001000 and Iptr #80000140 (70_reset_and_hazards.md R780; 95 2.10). -/
theorem test_run : (match step (commandSt .ready (.run 0x80001000#32 0x80000140#32)) with
    | .next t => t.r.wdesc == 0x80001000#32 && t.r.iptr == 0x80000140#32 && t.r.status == 0x80#32 && t.ctl.gross == .running
    | _ => false) = true := by decide +kernel

/-- The first step from reset with an instruction in place runs it. -/
theorem test_withFetchWord : (match step (State.reset.withFetchWord 16 0xF224) with
    | .next t => t.r.areg == 0x80000000#32
    | _ => false) = true := by decide +kernel

theorem test_decodeTableWord : decodeTableWord 16 0xF624 = some .and := by decide +kernel

/-! ## States that meet the hypotheses of the obligations

Each theorem is named after its obligation; every clause has a state, at a boundary value of its range. -/

/-- Each element of a list has a property. Written so that deciding it walks the list. -/
def Each {α : Type} (l : List α) (p : α → Prop) [DecidablePred p] : Bool := l.all fun x => decide (p x)

/-- `s` with other registers. -/
def regs (s : State) (f : Regs → Regs) : State := { s with r := f s.r }

theorem witness_StepKeepsTheInvariant : let s := plainSt 1#32 2#32 3#32 [(0x80000100#32, 0x41610000#32)]
    s.mem.wf = true ∧ s.trouble = none ∧ (match step s with
      | .next _ => true
      | _ => false) = true := by decide +kernel

theorem reset_Configured : State.reset.Configured := by
  refine ⟨by decide +kernel, by decide +kernel, by decide +kernel, by decide +kernel, by decide +kernel, by decide +kernel,
    by decide +kernel, by decide +kernel, fun k => ?_⟩
  have h : (Quad.all Bank.reset).get k = Bank.reset := by
    unfold Quad.get Quad.all
    split <;> rfl
  have b : Bank.reset.Configured :=
    ⟨by decide, by decide, by decide, by decide, by decide, by decide, by decide, by decide, by decide⟩
  exact ⟨h ▸ b, h ▸ b⟩

theorem witness_StepKeepsConfiguration : State.reset.Configured ∧ (match step State.reset with
      | .next _ => true
      | _ => false) = true := ⟨reset_Configured, by decide +kernel⟩

/-- One line, in row 200 of its bank. -/
theorem cachedSt_LinesApart (a : Word) : (cachedSt a).LinesApart :=
  ⟨List.pairwise_singleton _ _, List.pairwise_singleton _ _, fun l hl => by
    rw [List.mem_singleton.mp hl]
    exact ⟨by decide +kernel, fun r h => by rw [← Option.some.inj h]; decide⟩⟩

/-- One line, in the way of a step and of a replacement. -/
theorem witness_StepKeepsTheCacheLines : (cachedSt 0#32).LinesApart ∧ (match step (cachedSt 0#32) with
      | .next _ => true
      | _ => false) = true := ⟨cachedSt_LinesApart 0#32, by decide +kernel⟩

theorem witness_DecodeEncodeRoundTrip : (Instr.ldc 0x80000000#32).wf = true ∧ (Instr.opr 0x80000000#32).wf = true ∧
    (∀ d : BitVec 4, Instr.ldc 0x80000000#32 ≠ .pfix d ∧ Instr.ldc 0x80000000#32 ≠ .nfix d) ∧
    (∀ d : BitVec 4, Instr.opr 0x80000000#32 ≠ .pfix d ∧ Instr.opr 0x80000000#32 ≠ .nfix d) :=
  ⟨by decide +kernel, by decide +kernel, fun _ => ⟨nofun, nofun⟩, fun _ => ⟨nofun, nofun⟩⟩

/-- `ldc -31` at #80000102; the end of a longer chain, `ldc` #13 with #100 in Oreg; a chain that is nothing but prefixes. -/
theorem witness_StepRunsTheDecodedInstruction :
    let s := regs (plainSt 1#32 2#32 3#32 [(0x80000100#32, 0x41610000#32)]) fun r => { r with iptr := 0x80000102#32 }
    let u := { s with inChain := true, oreg := 0x100#32 }
    let p := regs (plainSt 1#32 2#32 3#32 [(0x80000104#32, 0x20202020#32), (0x80000108#32, 0x20202020#32)]) fun r =>
      { r with iptr := 0x80000104#32 }
    (s.cpuRuns = true ∧ s.agenda = [] ∧ s.cache.waiting = false ∧ s.interruptDue = false ∧ s.r.wdesc ≠ 0x80000000#32 ∧
      (s.r.isP && s.timesliceDue) = false ∧ s.fetched = .bytes [0x61#8, 0x41#8]) ∧
    (u.cpuRuns = true ∧ u.cache.waiting = false ∧ u.inChain = true ∧ u.fetched = .bytes [0x61#8, 0x41#8]) ∧
    (p.cpuRuns = true ∧ p.agenda = [] ∧ p.cache.waiting = false ∧ p.interruptDue = false ∧ p.r.wdesc ≠ 0x80000000#32 ∧
      (p.r.isP && p.timesliceDue) = false ∧ p.fetched = .bytes (List.replicate 8 0x20#8)) := by decide +kernel

theorem witness_StepRunsTheDecodedInstruction_decode :
    decodeWith 0#32 [0x61#8, 0x41#8] = .ok (.ldc 0xFFFFFFE1#32, []) ∧
    decodeWith 0x100#32 [0x61#8, 0x41#8] = .ok (.ldc 0xFFFFEFE1#32, []) ∧
    decodeWith 0#32 (List.replicate 8 0x20#8) = .ok (.pfix 0#4, List.replicate 7 0x20#8) := ⟨rfl, rfl, rfl⟩

/-- No prefix, and seven prefixes. -/
theorem witness_FetchReadsMemory : ∀ x ∈ [(plainSt 1#32 2#32 3#32 [(0x80000100#32, 0x00004000#32)], 0),
      (plainSt 1#32 2#32 3#32 [(0x80000100#32, 0x20202000#32), (0x80000104#32, 0x20202020#32), (0x80000108#32, 0x41#32)], 7)],
    x.1.r.isP = false ∧ x.1.prefetch = [] ∧ x.2 < 8 ∧
    (∀ k : Nat, k ≤ x.2 → x.1.inVlcb (x.1.r.iptr + BitVec.ofNat 32 k) = false ∧
      x.1.legal false false (x.1.r.iptr + BitVec.ofNat 32 k) = true) ∧
    (∀ k : Nat, k < x.2 → (x.1.byteAt (x.1.r.iptr + BitVec.ofNat 32 k)).extractLsb' 4 4 = 2#4 ∨
      (x.1.byteAt (x.1.r.iptr + BitVec.ofNat 32 k)).extractLsb' 4 4 = 6#4) ∧
    (x.1.byteAt (x.1.r.iptr + BitVec.ofNat 32 x.2)).extractLsb' 4 4 ≠ 2#4 ∧
    (x.1.byteAt (x.1.r.iptr + BitVec.ofNat 32 x.2)).extractLsb' 4 4 ≠ 6#4 := by decide +kernel

/-! ### Integer instructions -/

theorem witness_PlainIntegerInstructions : (∀ s ∈ [plainSt 0#32 0#32 3#32 [], plainSt 0#32 1#32 3#32 [],
      plainSt 31#32 1#32 3#32 [], plainSt 32#32 1#32 3#32 []], s.calm) ∧
    (¬((plainSt 0#32 1#32 3#32 []).r.areg = 0#32 ∧ (plainSt 0#32 1#32 3#32 []).r.breg = 0#32)) ∧
    (plainSt 31#32 1#32 3#32 []).r.areg = BitVec.ofNat 32 31 ∧ ¬(plainSt 32#32 1#32 3#32 []).r.areg.toNat < 32 := by
  decide +kernel

/-- `bitrevnbits` of 32 and 33 bits; `xword` of 32 and 1 bits. -/
theorem witness_BitAndCrcInstructions : (plainSt 32#32 1#32 3#32 []).calm ∧ (32#32 : Word) = BitVec.ofNat 32 32 ∧
    (plainSt 33#32 1#32 3#32 []).calm ∧ ¬(33#32 : Word).toNat ≤ 32 ∧
    (plainSt 0x80000000#32 0xFFFFFFFF#32 3#32 []).calm ∧ (0x80000000#32 : Word) = BitVec.ofNat 32 (2 ^ (32 - 1)) ∧
    (0xFFFFFFFF#32 : Word).toNat < 2 ^ 32 ∧
    (plainSt 1#32 1#32 3#32 []).calm ∧ (1#32 : Word) = BitVec.ofNat 32 (2 ^ (1 - 1)) ∧ (1#32 : Word).toNat < 2 ^ 1 := by
  decide +kernel

theorem witness_LongUnsignedInstructions : (plainSt 64#32 2#32 1#32 []).calm := by decide +kernel

/-- The greatest and least results that fit; a quotient with the largest high word. -/
theorem witness_CheckedArithmeticWithoutOverflow : (∀ s ∈ [plainSt 0x7FFFFFFE#32 1#32 1#32 [], plainSt 1#32 0x80000001#32 0#32 [],
      plainSt 0x80000000#32 1#32 0#32 [], plainSt 0xFFFFFFFF#32 0xFFFFFFFE#32 0xFFFFFFFE#32 []], s.calm) ∧
    Fits ((0x7FFFFFFE#32 : Word).toInt + (1#32 : Word).toInt) ∧
    Fits ((1#32 : Word).toInt + (0x7FFFFFFE#32 : Word).toInt) ∧ Fits ((0x80000001#32 : Word).toInt - (1#32 : Word).toInt) ∧
    Fits ((1#32 : Word).toInt * (0x80000000#32 : Word).toInt) ∧
    ¬Fits ((0x7FFFFFFE#32 : Word).toInt + (1#32 : Word).toInt + ((1#32 : Word).toNat : Int) % 2) ∧
    Fits ((0x80000000#32 : Word).toInt + (1#32 : Word).toInt + ((0#32 : Word).toNat : Int) % 2) ∧
    Fits ((0x80000001#32 : Word).toInt - (1#32 : Word).toInt - ((0#32 : Word).toNat : Int) % 2) ∧
    (1#32 : Word).toInt ≠ 0 ∧ Fits ((0x80000001#32 : Word).toInt.tdiv (1#32 : Word).toInt) ∧
    ¬((0x80000000#32 : Word).toInt = -2147483648 ∧ (1#32 : Word).toInt = -2147483648) ∧
    (0xFFFFFFFE#32 : Word).toNat < (0xFFFFFFFF#32 : Word).toNat := by decide +kernel

theorem witness_OverflowSetsTheFlagOrTraps : (∀ s ∈ [plainSt 0x7FFFFFFF#32 1#32 0#32 [], plainSt 1#32 0x80000000#32 0#32 [],
      plainSt 0x80000000#32 0x80000000#32 0x80000000#32 [], plainSt 0#32 1#32 0#32 [],
      plainSt 0xFFFFFFFF#32 0x80000000#32 0#32 [], plainSt 7#32 0#32 7#32 []],
      s.calm ∧ s.r.status.getLsbD 7 = false) ∧
    ¬Fits ((0x7FFFFFFF#32 : Word).toInt + (1#32 : Word).toInt) ∧ ¬Fits ((1#32 : Word).toInt + (0x7FFFFFFF#32 : Word).toInt) ∧
    ¬Fits ((0x80000000#32 : Word).toInt - (1#32 : Word).toInt) ∧
    ¬Fits ((0x80000000#32 : Word).toInt * (0x80000000#32 : Word).toInt) ∧
    ¬Fits ((0x7FFFFFFF#32 : Word).toInt + (1#32 : Word).toInt + ((0#32 : Word).toNat : Int) % 2) ∧
    ¬Fits ((0x80000000#32 : Word).toInt - (1#32 : Word).toInt - ((0#32 : Word).toNat : Int) % 2) ∧
    (0#32 : Word).toInt = 0 ∧ ((0xFFFFFFFF#32 : Word).toInt = -1 ∧ (0x80000000#32 : Word).toInt = -2147483648) ∧
    ¬(7#32 : Word).toNat < (7#32 : Word).toNat := by decide +kernel

/-- Each check at the edges of its range. -/
theorem witness_RangeAndLengthChecks : (∀ s ∈ [plainSt 127#32 0#32 0#32 [], plainSt 255#32 0#32 0#32 [], plainSt 32767#32 0#32 0#32 [],
      plainSt 65535#32 0#32 0#32 [], plainSt 0xFFFFFF80#32 0xFFFFFFFF#32 0#32 [], plainSt 0xFFFF8000#32 0xFFFFFFFF#32 0#32 [],
      plainSt 0x40000000#32 0x3FFFFFFF#32 0#32 [], plainSt 0x80000000#32 5#32 0#32 [], plainSt 5#32 4#32 0#32 [],
      plainSt 4#32 4#32 4#32 []], s.calm) ∧
    (-128 ≤ (0xFFFFFF80#32 : Word).toInt ∧ (127#32 : Word).toInt < 128) ∧
    (0 ≤ (0#32 : Word).toInt ∧ (255#32 : Word).toInt < 256) ∧
    (-32768 ≤ (0xFFFF8000#32 : Word).toInt ∧ (32767#32 : Word).toInt < 32768) ∧ (65535#32 : Word).toInt < 65536 ∧
    (0xFFFFFF80#32 : Word).toInt < 0 ∧
    ((0x40000000#32 : Word).toInt = 2 ^ (31 - 1) ∧ -(2 ^ (31 - 1)) ≤ (0x3FFFFFFF#32 : Word).toInt ∧
      (0x3FFFFFFF#32 : Word).toInt < 2 ^ (31 - 1)) ∧
    (-(5#32 : Word).toInt ≤ (4#32 : Word).toInt ∧ (4#32 : Word).toInt < (5#32 : Word).toInt) ∧
    (4#32 : Word).toNat < (5#32 : Word).toNat ∧ (0 < (4#32 : Word).toNat ∧ (4#32 : Word).toNat ≤ (4#32 : Word).toNat) ∧
    ((4#32 : Word).toInt ≤ (4#32 : Word).toInt) := by decide +kernel

/-! ### Errors and traps -/

/-- Each check just outside its range. -/
theorem witness_RangeAndLengthChecks_failing : (plainSt 128#32 4#32 0#32 []).cpuMode = .whole ∧ 128 ≤ (128#32 : Word).toInt ∧
    (0xFFFFFF7F#32 : Word).toInt < -128 ∧ 256 ≤ (256#32 : Word).toInt ∧ (0xFFFFFFFF#32 : Word).toInt < 0 ∧
    32768 ≤ (32768#32 : Word).toInt ∧ (0xFFFF7FFF#32 : Word).toInt < -32768 ∧ 65536 ≤ (65536#32 : Word).toInt ∧
    ¬((0 ≤ (0#32 : Word).toInt ∧ (1#32 : Word) = 0#32) ∨ ((0#32 : Word).toInt < 0 ∧ (1#32 : Word) = 0xFFFFFFFF#32)) ∧
    ((4#32 : Word) ≠ 0x80000000#32 ∧ (4#32 : Word).toInt ≤ (4#32 : Word).toInt) ∧ (4#32 : Word).toNat ≤ (4#32 : Word).toNat ∧
    (4#32 : Word).toNat < (5#32 : Word).toNat ∧ (3#32 : Word).toInt < (4#32 : Word).toInt ∧ 13 < (14#32 : Word).toNat ∧
    ((trapSt 0#32 0#32 0#32).r.isP = false ∧ (trapSt 0#32 0#32 0#32).r.th ≠ 0x80000000#32) ∧
    (plainSt 0#32 0#32 0#32 []).confRead 0x0100#32 = none ∧
    ({ plainSt 0#32 0#32 0#32 [] with conf := { Conf.reset with chanWriteLock := true } } : State).confLocked 0x010F#32 =
      true := by decide +kernel

/-- Addresses that stconf cannot write (`test_conf_unassigned` is one that is not assigned), and one beyond sixteen bits. -/
theorem witness_RangeAndLengthChecks_conf : Each [0x010E#32, 0x2002#32, 0x1001#32, 0xFE03#32, 0x10000#32] fun a =>
    let s := plainSt a 1#32 0#32 []
    s.cpuMode = .whole ∧ s.r.isP = false ∧ (s.r.areg = 0x10000#32 → 0xFFFF < s.r.areg.toNat) := by decide +kernel

theorem test_conf_unassigned : (plainSt 0x0100#32 1#32 0#32 []).confWrite 0x0100#32 1#32 = .invalid := rfl

/-- A virtual link and each operand outside its range: a link number and none of a link that is active; an offset; the header
lengths 0, 256 and 4 without an offset; a length that is not the one recorded; a null header. -/
theorem witness_RangeAndLengthChecks_links : Each [(4#32, 0#32, headed), (0xFFFFFFFF#32, 0#32, { headed with
        inp := { headed.inp with active := true } }), (3#32, 0xFFFF#32, headed), (0#32, 0#32, headed), (0x100#32, 0#32, headed),
      (4#32, 0#32, headed), (2#32, 0#32, headed), (1#32, 0#32, { headed with null := true })] fun x =>
    let s := linked 0x80000040#32 x.1 x.2.1 x.2.2
    s.cpuMode = .whole ∧ s.r.isP = false ∧ s.WordOperand s.r.areg ∧ s.vcp.mode ≠ .resetting ∧
    s.kind (s.r.areg &&& 0xFFFFFFFC#32) = .virt 0 false ∧ s.vlcb 0 = x.2.2 := by decide +kernel

theorem witness_RangeAndLengthChecks_links_values : 3 < (4#32 : Word).toNat ∧ (3#32 : Word).toNat ≤ 3 ∧
    0xFFFE < (0xFFFF#32 : Word).toNat ∧ 0xFF < (0x100#32 : Word).toNat ∧ headed.offset = 0xFFFFFFFF#32 ∧
    (2#32 : Word) ≠ headed.hlen.setWidth 32 ∧ 1 < (2#32 : Word).toNat := by decide

/-- No legal channel: the last address below MemStart; a kind that is not taken: byte-stream, virtual output, event, internal;
and a message that was too long. -/
theorem witness_RangeAndLengthChecks_channels : Each [(0x800003FE#32, ChanKind.invalid), (0x80000003#32, .byteStream 0),
      (0x80000044#32, .virt 0 true), (0x80000020#32, .event 0 false), (0x80000400#32, .internal)] fun x =>
    let s := st 0#32 x.1 x.1 x.1 0x80000000#32 0x80001001#32 [(0x80000FF0#32, 0xFFFFFFFF#32)]
    s.cpuMode = .whole ∧ s.r.isP = false ∧ s.WordOperand s.r.areg ∧ s.WordOperand s.r.breg ∧ s.WordOperand s.r.creg ∧
    s.kind (s.r.areg &&& 0xFFFFFFFC#32) = x.2 ∧ s.r.areg ≠ 0#32 ∧ s.r.breg ≠ 0#32 ∧
    s.wordAt (s.w - 16#32) = 0xFFFFFFFF#32 := by decide +kernel

theorem witness_OverflowSetsTheFlagOrTraps_trapped : let s := trapSt 0x7FFFFFFF#32 1#32 0#32
    s.cpuMode = .whole ∧ s.r.status.getLsbD 7 = true ∧ ¬Fits (s.r.areg.toInt + (1#32 : Word).toInt) ∧
    ¬Fits (s.r.breg.toInt + s.r.areg.toInt) ∧ ¬Fits ((0x80000000#32 : Word).toInt - (1#32 : Word).toInt) ∧
    ¬Fits ((2#32 : Word).toInt * (0x40000000#32 : Word).toInt) ∧
    ¬Fits (s.r.areg.toInt + s.r.breg.toInt + (s.r.creg.toNat : Int) % 2) ∧ (0#32 : Word).toInt = 0 ∧
    ¬(7#32 : Word).toNat < (7#32 : Word).toNat := by decide +kernel

theorem witness_OperandsThatTrap : let s := st 0x80000#32 0x80003001#32 0x80003002#32 0x80003003#32 handlerAt 0x80000101#32 []
    s.cpuMode = .whole ∧ s.r.status.getLsbD 19 = true ∧ s.r.areg &&& 3#32 ≠ 0#32 ∧ s.r.isP = false ∧
    s.r.areg &&& 1#32 ≠ 0#32 ∧ s.r.breg &&& 3#32 ≠ 0#32 ∧ s.r.creg &&& 3#32 ≠ 0#32 := by decide +kernel

theorem witness_PrivilegedInstructionsTrap : protectedSt.cpuMode = .whole ∧ protectedSt.r.isP = true ∧
    Instr.input ∈ privilegedInstrs := by decide +kernel

/-- The regions of `protectedSt` admit the addresses up to #FFFF: its workspace is outside. -/
theorem witness_OperandsThatTrap_violations : let s := regs protectedSt fun r => { r with areg := 0x00010000#32 }
    s.cpuMode = .whole ∧ s.r.translate false .read (s.w + 4#32 * 0#32) = .violation ∧
    s.r.translate false .write (s.w + 4#32 * 0#32) = .violation ∧ s.r.areg &&& 3#32 = 0#32 ∧
    s.r.translate false .read (s.r.areg + 4#32 * 0#32) = .violation ∧
    s.r.translate false .write (s.r.areg + 4#32 * 0#32) = .violation ∧ s.r.translate false .read s.r.areg = .violation ∧
    s.r.translate false .write s.r.areg = .violation ∧ s.r.translate true .read s.r.areg = .violation ∧
    s.r.translate true .write s.r.areg = .violation ∧ s.r.translate false .read s.w = .violation ∧
    s.r.translate false .write (s.w - 16#32) = .violation ∧ s.r.translate false .read 0xFFFC#32 = .ok 0x8001FFFC#32 := by
  decide +kernel

theorem witness_TrapEntersTheHandler : (trapSt 1#32 2#32 3#32).HandlerReady := by
  unfold State.HandlerReady
  decide +kernel

/-- A P-process whose supervisor has the null trap-handler, and one whose supervisor has its own at #80003000. -/
theorem witness_TrapEntersTheSupervisor : protectedSt.SupervisorReady ∧
    (regs protectedSt fun r => { r with th := 0x80003000#32 }).SupervisorReady := by
  unfold State.SupervisorReady
  exact ⟨by decide +kernel, by decide +kernel⟩

theorem witness_NullTrapHalts : let s := plainSt 1#32 2#32 3#32 []
    s.trouble = none ∧ s.r.isP = false ∧ s.r.th = 0x80000000#32 ∧ s.conf.standAloneMode = false ∧ s.agenda = [] ∧
    s.cache.waiting = false := by decide +kernel

/-- An unassigned code and the greatest type of `causeerror`. -/
theorem witness_InstructionsThatTrap : (trapSt 13#32 2#32 3#32).HandlerReady ∧ (trapSt 13#32 2#32 3#32).cpuMode = .whole ∧
    (opInstr? 0xFF#32).isNone = true ∧ (trapSt 13#32 2#32 3#32).r.areg.toNat ≤ 13 := by
  unfold State.HandlerReady
  decide +kernel

/-- A single step, and a pending watchpoint, at the end of an instruction that completes where neither is due; a watched store
at the lower and at the upper bound. -/
theorem witness_EndOfInstructionTraps : Each [0x04000080#32, 0x40000080#32] (fun w =>
      let s := regs (trapSt 7#32 2#32 3#32) fun r => { r with status := w }
      s.trouble = none ∧ (s.r.isP = true → s.timesliceDue = false) ∧
      (s.r.status.getLsbD 26 = true ∨ s.r.status.getLsbD 30 = true) ∧
      next .sum (regs s fun r => { r with status := r.status &&& 0xBBFFFFFF#32 }) (fun t => t.r.areg == 9#32) = true) ∧
    (let u := regs (trapSt 7#32 2#32 3#32) fun r => { r with status := 0x20000080#32, wl := 0x80001000#32, wu := 0x80001004#32 }
     u.calm ∧ u.mem.wf = true ∧ u.CanWrite false (u.w + 4#32 * 0#32) 0x80001000#32 ∧ u.watches (u.w + 4#32 * 0#32) = true ∧
     u.CanWrite false (u.w + 4#32 * 1#32) 0x80001004#32 ∧ u.watches (u.w + 4#32 * 1#32) = true ∧
     u.watches (u.w + 4#32 * 2#32) = false) := by decide +kernel

/-- A process with a trap-handler and a status, on an idle channel at #80003000, its handler's control word watched where the
status enables it. -/
def trappable (w : Word) : State := regs (st 0x80#32 0x80003000#32 0x80003000#32 3#32 handlerAt 0x80001001#32
  [(handlerAt, 0x80#32), (handlerAt + 4#32, 0x80001400#32), (0x80003000#32, 0x80000000#32)])
  fun r => { r with status := w, wl := handlerAt, wu := handlerAt }

theorem trappable_ready : (trappable 0x04000080#32).HandlerReady ∧ (trappable 0x40000080#32).HandlerReady ∧
    (trappable 0x20000080#32).HandlerReady := by
  unfold State.HandlerReady
  exact ⟨by decide +kernel, by decide +kernel, by decide +kernel⟩

/-- A single step, and a pending watchpoint, at an instruction that deschedules; with `trappable_ready`. -/
theorem witness_EndOfInstructionTraps_deschedule : Each [0x04000080#32, 0x40000080#32] fun w =>
    let s := trappable w
    s.cpuMode = .whole ∧ (s.r.status.getLsbD 26 = true ∨ s.r.status.getLsbD 30 = true) ∧
    s.WordOperand s.r.breg ∧ s.r.status.getLsbD 29 = false ∧ s.resuming = false ∧ s.kind s.r.breg = .internal ∧
    s.wordAt s.r.breg = 0x80000000#32 ∧ [s.r.breg, s.w - 4#32, s.w - 12#32, s.w - 16#32].Nodup ∧
    (Each [s.w - 4#32, s.w - 12#32, s.r.breg, s.w - 16#32] fun a => s.Plain a ∧
      ∀ k : Nat, k < 12 → a ≠ s.r.th + BitVec.ofNat 32 (4 * k)) := by decide +kernel

/-- A single step, a pending watchpoint, and a watchpoint on the handler's control word, at a context instruction; with
`trappable_ready`. -/
theorem witness_EndOfInstructionTraps_context : Each [0x04000080#32, 0x40000080#32, 0x20000080#32] fun w =>
    let s := trappable w
    s.cpuMode = .whole ∧ (s.r.status.getLsbD 26 = true ∨ (s.r.watch || s.watches s.r.th) = true) ∧
    s.r.areg &&& 3#32 = 0#32 ∧ s.r.breg &&& 3#32 = 0#32 ∧ s.Plain (s.w - 4#32) ∧
    (∀ k : Nat, k < 12 → s.w - 4#32 ≠ s.r.th + BitVec.ofNat 32 (4 * k)) := by decide +kernel

/-- `protectedSt` `n` timeslice periods after its load. -/
def sliced (n : Nat) (status : Word) : State :=
  { protectedSt with tsCount := n, r := { protectedSt.r with status := status } }

/-- A timeslice due, and not; a watchpoint pending, and neither; before an instruction. -/
theorem witness_EndOfInstructionTraps_timeslice :
    (sliced 2 0x08000080#32).trouble = none ∧ (sliced 2 0x08000080#32).r.isP = true ∧ (sliced 2 0x08000080#32).timesliceDue = true ∧
    (sliced 1 0x48000080#32).timesliceDue = false ∧ (sliced 1 0x48000080#32).r.watch = true ∧
    (sliced 1 0x08000080#32).timesliceDue = false ∧ (sliced 1 0x08000080#32).r.status.getLsbD 26 = false ∧
    (sliced 1 0x08000080#32).r.watch = false ∧
    (let s := sliced 2 0x08000080#32
     s.agenda = [] ∧ s.inChain = false ∧ s.cache.waiting = false ∧ s.cpuRuns = true ∧ s.interruptDue = false ∧
     s.r.wdesc ≠ 0x80000000#32) := by decide +kernel

/-- `timeslice` in a P-process, of a period just begun. -/
theorem witness_EndOfInstructionTraps_force : (sliced 0 0x08000080#32).SupervisorReady ∧
    (sliced 0 0x08000080#32).timesliceDue = false := by
  unfold State.SupervisorReady
  decide +kernel

/-! ### Loads, stores, jumps, moves -/

/-- A misaligned operand with Unalign not trapped; the last byte and the last word of the memory on chip. -/
theorem witness_LoadsReadMemory : let s := plainSt 0x80003FFF#32 2#32 3#32 []
    s.calm ∧ s.CanRead false (s.w + 4#32 * 0xBFF#32) 0x80003FFC#32 ∧ s.ws.stale = [] ∧ s.WordOperand s.r.areg ∧
    s.CanRead false ((s.r.areg &&& 0xFFFFFFFC#32) + 4#32 * 0#32) 0x80003FFC#32 ∧ s.CanRead false s.r.areg 0x80003FFF#32 ∧
    s.HalfOperand s.r.areg ∧ s.CanRead false (s.r.areg &&& 0xFFFFFFFE#32) 0x80003FFE#32 ∧
    s.CanRead true s.r.areg 0x80003FFF#32 ∧ s.CanRead true (s.r.areg &&& 0xFFFFFFFE#32) 0x80003FFE#32 ∧
    s.CanRead true (s.r.areg &&& 0xFFFFFFFC#32) 0x80003FFC#32 := by decide +kernel

theorem witness_StoresWriteMemory : let s := plainSt 0x80003FFF#32 2#32 3#32 []
    s.calm ∧ s.mem.wf = true ∧ s.CanWrite false (s.w + 4#32 * 0xBFF#32) 0x80003FFC#32 ∧
    s.watches (s.w + 4#32 * 0xBFF#32) = false ∧ s.WordOperand s.r.areg ∧
    s.CanWrite false ((s.r.areg &&& 0xFFFFFFFC#32) + 4#32 * 0#32) 0x80003FFC#32 ∧
    s.watches ((s.r.areg &&& 0xFFFFFFFC#32) + 4#32 * 0#32) = false ∧ s.CanWrite false s.r.areg 0x80003FFF#32 ∧
    s.watches s.r.areg = false ∧ s.HalfOperand s.r.areg ∧ s.CanWrite false (s.r.areg &&& 0xFFFFFFFE#32) 0x80003FFE#32 ∧
    s.watches (s.r.areg &&& 0xFFFFFFFE#32) = false ∧ s.CanWrite true s.r.areg 0x80003FFF#32 ∧
    s.CanWrite true (s.r.areg &&& 0xFFFFFFFE#32) 0x80003FFE#32 ∧
    s.CanWrite true (s.r.areg &&& 0xFFFFFFFC#32) 0x80003FFC#32 ∧ s.watches (s.r.areg &&& 0xFFFFFFFC#32) = false := by
  decide +kernel

/-- A bank 0 that decodes every address, which a device store reaches: where the board has no memory that keeps it, nothing
takes it (D3; which the board has is `Config.bankStores`). -/
theorem witness_StoresWriteMemory_untaken (h : Config.bankStores 0 0x40000000#32 = false) :
    let s := plainSt 0x40000000#32 2#32 3#32 []
    let s := { s with conf := { s.conf with pmiConfigured := true } }
    s.calm ∧ s.mem.wf = true ∧ s.cpuMode ≠ .memSem ∧ s.HalfOperand s.r.areg ∧ s.watches s.r.areg = false ∧
    s.r.translate true .write s.r.areg = .ok 0x40000000#32 ∧ s.outOfBounds 0x40000000#32 = false ∧
    s.legal true true 0x40000000#32 = true ∧ s.takes true 0x40000000#32 = false := by
  refine ⟨by decide +kernel, by decide +kernel, by decide +kernel, by decide +kernel, by decide +kernel, by decide +kernel,
    by decide +kernel, by decide +kernel, ?_⟩
  show (Config.bankStores 0 0x40000000#32 || _) = false
  rw [h]
  decide +kernel

theorem witness_JumpsAndWorkspace : let s := plainSt 0#32 2#32 3#32 []
    let u := plainSt 0x80003FFF#32 2#32 3#32 []
    s.calm ∧ (0xFFFFFFFF#32 : Word) ≠ 0#32 ∧ s.timesliceDue = false ∧ s.ctl.gross ≠ .stopping ∧ s.r.areg = 0#32 ∧
    u.calm ∧ u.r.areg ≠ 0#32 ∧ s.r.translate false .write (s.w + 4#32 * 0xFFFFFFFF#32) = .ok 0x80000FFC#32 ∧
    u.WordOperand u.r.areg ∧ u.r.translate false .write (u.r.areg &&& 0xFFFFFFFC#32) = .ok 0x80003FFC#32 ∧
    s.CanRead false s.w 0x80001000#32 := by decide +kernel

/-- Counts 1 and 2 before `lend`: the last iteration and the one before. -/
theorem witness_CallAndLoopEnd : ∀ s ∈ [plainSt 8#32 0x80001200#32 3#32 [(0x80001204#32, 1#32)],
      plainSt 8#32 0x80001203#32 3#32 [(0x80001204#32, 2#32)]],
    s.plain ∧ s.mem.wf = true ∧ s.Plain (s.w - 16#32) ∧ s.Plain (s.w - 12#32) ∧ s.Plain (s.w - 8#32) ∧ s.Plain (s.w - 4#32) ∧
    s.timesliceDue = false ∧ s.ctl.gross ≠ .stopping ∧ s.WordOperand s.r.breg ∧ s.Plain (s.r.breg &&& 0xFFFFFFFC#32) ∧
    s.Plain ((s.r.breg &&& 0xFFFFFFFC#32) + 4#32) := by decide +kernel

/-- Adjacent blocks, and a move of nothing. -/
theorem witness_BlockMoveCopies : Each [0#32, 5#32] fun n => let s := plainSt n 0x80001200#32 0x80001205#32 []
    s.plain ∧ s.mem.wf = true ∧ s.r.areg.toNat ≤ (s.r.breg - s.r.creg).toNat ∧ s.r.areg.toNat ≤ (s.r.creg - s.r.breg).toNat ∧
    (∀ k : Nat, k < s.r.areg.toNat → s.Plain (s.r.breg + BitVec.ofNat 32 k) ∧ s.Plain (s.r.creg + BitVec.ofNat 32 k)) ∧
    (∀ k : Nat, k < s.r.areg.toNat →
      s.CanWrite true (s.r.breg + BitVec.ofNat 32 k) (s.r.breg + BitVec.ofNat 32 k) ∧
      s.CanRead true (s.r.creg + BitVec.ofNat 32 k) (s.r.creg + BitVec.ofNat 32 k)) := by decide +kernel

/-- Two rows of three bytes. -/
theorem witness_TwoDimensionalMoves :
    let s := regs (plainSt 3#32 0x80001200#32 0x80001300#32 []) fun r => { r with bm0 := 2#32, bm1 := 3#32, bm2 := 16#32 }
    let dst (p : Nat × Nat) : Word := s.r.breg + BitVec.ofNat 32 p.1 * s.r.bm1 + BitVec.ofNat 32 p.2
    let src (p : Nat × Nat) : Word := s.r.creg + BitVec.ofNat 32 p.1 * s.r.bm2 + BitVec.ofNat 32 p.2
    let all := [(0, 0), (0, 1), (0, 2), (1, 0), (1, 1), (1, 2)]
    s.plain ∧ s.mem.wf = true ∧ (∀ p ∈ all, s.Plain (dst p) ∧ s.Plain (src p) ∧ ∀ q ∈ all, dst p ≠ src q ∧ (dst p = dst q → p = q)) := by
  decide +kernel

theorem witness_TwoDimensionalMoves_stmove2dinit : let u := plainSt 0x80001201#32 2#32 3#32 []
    let a := u.r.areg &&& 0xFFFFFFFC#32
    u.plain ∧ u.mem.wf = true ∧ u.WordOperand u.r.areg ∧ u.Plain a ∧ u.Plain (a + 4#32) ∧ u.Plain (a + 8#32) := by
  decide +kernel

/-! ### Processes, queues, timers -/

theorem witness_PrivilegedRegisterInstructions : (plainSt 0#32 2#32 3#32 []).plain ∧ (plainSt 1#32 2#32 3#32 []).plain := by
  decide +kernel

theorem witness_FlagInstructions : (plainSt 0xFFFFFFFF#32 2#32 3#32 []).calm := by decide +kernel

/-- An empty list and one with processes; both priorities. -/
theorem witness_StartingAndEndingProcesses_runp : ∀ s ∈ [plainSt 0x80001500#32 0#32 0#32 [], listed 0x80001501#32 0#32 0#32 []],
    s.plain ∧ s.mem.wf = true ∧ s.CanAppend (s.r.areg.getLsbD 0) := by decide +kernel

theorem witness_StartingAndEndingProcesses_startp : ∀ s ∈ [plainSt 0x80001503#32 0x20#32 0#32 [],
      listed 0x80001500#32 0x20#32 0#32 []],
    let a := s.r.areg &&& 0xFFFFFFFC#32
    s.plain ∧ s.mem.wf = true ∧ s.WordOperand s.r.areg ∧ s.Plain (a - 4#32) ∧ s.Plain (a - 12#32) ∧
    s.CanAppend (s.r.wdesc.getLsbD 0) ∧ a - 4#32 ∉ s.appendPlace (s.r.wdesc.getLsbD 0) ∧
    a - 12#32 ∉ s.appendPlace (s.r.wdesc.getLsbD 0) := by decide +kernel

/-- The last component, and the last but one. -/
theorem witness_StartingAndEndingProcesses_endp : ∀ x ∈ [(plainSt 0x80001202#32 0#32 0#32 [(0x80001204#32, 1#32)], 1#32),
      (plainSt 0x80001202#32 0#32 0#32 [(0x80001204#32, 2#32)], 2#32)],
    let a := x.1.r.areg &&& 0xFFFFFFFC#32
    x.1.plain ∧ x.1.mem.wf = true ∧ x.1.WordOperand x.1.r.areg ∧ x.1.Plain a ∧ x.1.Plain (a + 4#32) ∧
    x.1.wordAt (a + 4#32) = x.2 ∧ x.1.Alone ∧ x.1.r.th = 0x80000000#32 := by decide +kernel

theorem witness_LeavingTheProcessor : let s := plainSt 1#32 2#32 3#32 []
    s.plain ∧ s.mem.wf = true ∧ s.CanIdle ∧ s.w ≠ 0x80000000#32 ∧ s.ctl.gross ≠ .stopping := by decide +kernel

/-- A trap-handler at #80002000, in use or not. -/
theorem witness_LeavingTheProcessor_status : Each [0x80000080#32, 0x80#32] fun control =>
    let s := regs (plainSt 1#32 2#32 3#32 [(0x80002000#32, control)]) fun r => { r with th := 0x80002000#32 }
    s.plain ∧ s.mem.wf = true ∧ s.Alone ∧ s.r.th ≠ 0x80000000#32 ∧ s.r.th &&& 3#32 = 0#32 ∧ s.Plain s.r.th ∧
    s.Plain (s.w - 4#32) ∧ s.Plain (s.w - 12#32) ∧ [s.w - 4#32, s.w - 12#32, s.r.th].Nodup ∧
    s.r.status.getLsbD 31 = false := by decide +kernel

/-- The process #80001100 waits while #80001000's timeslice has ended, or a Stop has come; the loop of `lend` ends, or not. -/
def slicePoint (periods : Nat) (g : Gross) (count : Word) : State :=
  let s := plainSt 8#32 0x80001203#32 3#32 [(0x80001204#32, count), (0x800010F4#32, 0x80000000#32), (0x800010FC#32, 0x80000444#32)]
  { s with
    tsCount := periods, ctl := { s.ctl with gross := g }, lo := { s.lo with fptr := 0x80001100#32, bptr := 0x80001100#32 } }

theorem witness_LeavingTheProcessor_point : Each [(2, Gross.running, 1#32), (0, .stopping, 2#32)] fun x =>
    let s := slicePoint x.1 x.2.1 x.2.2
    let w := s.lo.fptr
    let b := s.r.breg &&& 0xFFFFFFFC#32
    s.plain ∧ s.mem.wf = true ∧ s.r.th = 0x80000000#32 ∧ s.r.wdesc.getLsbD 0 = true ∧
    (s.timesliceDue = true ∨ s.ctl.gross = .stopping) ∧ s.hi.fptr = 0x80000000#32 ∧ s.shadowValid = false ∧ w = s.lo.bptr ∧
    w ≠ 0x80000000#32 ∧ w &&& 3#32 = 0#32 ∧ s.wordAt (w - 12#32) = 0x80000000#32 ∧
    (Each [s.w - 4#32, s.w - 12#32, w - 4#32, w - 8#32, w - 12#32] fun a => s.Plain a) ∧ s.WordOperand s.r.breg ∧ s.Plain b ∧
    s.Plain (b + 4#32) ∧ [s.w - 4#32, s.w - 12#32, w - 4#32, w - 8#32, w - 12#32, b, b + 4#32].Nodup ∧
    s.wordAt (b + 4#32) = x.2.2 := by decide +kernel

/-- A list of one process and a list of several. -/
def queued (s : State) (low : Bool) (front back : Word) : State :=
  let q := { s.sched low with fptr := front, bptr := back }
  if low then { s with lo := q } else { s with hi := q }

theorem witness_RunNextTakesTheFront :
    let s := plainSt 0#32 0#32 0#32 [(0x800010F4#32, 0x80000000#32), (0x800010FC#32, 0x80000444#32), (0x800010F8#32, 0x80001200#32)]
    ∀ x ∈ [(queued s true 0x80001100#32 0x80001100#32, true), (queued s false 0x80001100#32 0x80001200#32, false)],
    let w := (x.1.sched x.2).fptr
    x.1.trouble = none ∧ x.1.ctl.gross ≠ .stopping ∧ (x.2 = true → x.1.hi.fptr = 0x80000000#32 ∧ x.1.shadowValid = false) ∧
    w ≠ 0x80000000#32 ∧ w &&& 3#32 = 0#32 ∧ x.1.Plain (w - 4#32) ∧ x.1.Plain (w - 8#32) ∧ x.1.Plain (w - 12#32) ∧
    x.1.wordAt (w - 12#32) = 0x80000000#32 := by decide +kernel

/-- The process #80001100 alone is ready, with a trap-handler at #80002000: one that enables no watchpoint and one that does;
and one in use, whose queue is empty or ends with #80002900. -/
def handled (control queue : Word) (low : Bool) : State := queued (plainSt 0#32 0#32 0#32 [(0x800010F4#32, 0x80002000#32),
  (0x800010FC#32, 0x80000444#32), (0x80002000#32, control), (0x80002008#32, queue), (0x8000200C#32, 0x80002900#32),
  (0x80002014#32, 0x80000100#32), (0x80002018#32, 0x80000104#32)]) low 0x80001100#32 0x80001100#32

theorem witness_RunNextTakesTheFront_handler : Each [(0x80#32, true), (0x6E0BFFCC#32, false)] fun x =>
    let s := handled x.1 0#32 x.2
    let w := (s.sched x.2).fptr
    let h := s.wordAt (w - 12#32)
    s.trouble = none ∧ s.ctl.gross ≠ .stopping ∧ (x.2 = true → s.hi.fptr = 0x80000000#32 ∧ s.shadowValid = false) ∧
    w ≠ 0x80000000#32 ∧ w &&& 3#32 = 0#32 ∧ s.Plain (w - 4#32) ∧ s.Plain (w - 8#32) ∧ s.Plain (w - 12#32) ∧
    h ≠ 0x80000000#32 ∧ h &&& 3#32 = 0#32 ∧ s.Plain h ∧ s.wordAt h &&& 0x91F40033#32 = 0#32 ∧ s.wordAt h = x.1 ∧
    s.Plain (h + 20#32) ∧ s.Plain (h + 24#32) ∧ badBounds (s.wordAt (h + 20#32)) (s.wordAt (h + 24#32)) = false := by
  decide +kernel

theorem witness_RunNextTakesTheFront_inUse : Each [(0x80000000#32, true), (0x80002800#32, false)] fun x =>
    let s := handled 0x80000080#32 x.1 x.2
    let w := (s.sched x.2).fptr
    let h := s.wordAt (w - 12#32)
    let place := if s.wordAt (h + 8#32) = 0x80000000#32 then h + 8#32 else s.wordAt (h + 12#32) - 8#32
    s.trouble = none ∧ s.mem.wf = true ∧ s.ctl.gross ≠ .stopping ∧ s.shadowValid = false ∧
    (s.sched (!x.2)).fptr = 0x80000000#32 ∧ (s.sched x.2).bptr = w ∧ w ≠ 0x80000000#32 ∧ w &&& 3#32 = 0#32 ∧
    s.Plain (w - 12#32) ∧ h ≠ 0x80000000#32 ∧ h &&& 3#32 = 0#32 ∧ s.Plain h ∧ (s.wordAt h).getLsbD 31 = true ∧
    s.Plain (h + 8#32) ∧ s.Plain (h + 12#32) ∧ place &&& 3#32 = 0#32 ∧ s.Plain place ∧ place ≠ h + 12#32 := by decide +kernel

/-- After a Stop. -/
theorem witness_RunNextTakesTheFront_stopping : let s := plainSt 0#32 0#32 0#32 []
    let s := { s with ctl := { s.ctl with gross := .stopping }, r := { s.r with wdesc := 0x80000000#32 } }
    s.ctl.gross = .stopping ∧ s.agenda = [] ∧ s.inChain = false ∧ s.cache.waiting = false ∧ s.r.wdesc = 0x80000000#32 ∧
    s.trouble = none := by decide +kernel

/-- A low priority process, and the idle processor, while a high priority process is ready; and the return. -/
theorem witness_InterruptAndReturn : Each [0x80001001#32, 0x80000000#32] (fun d =>
      let s := regs (queued (plainSt 0#32 0#32 0#32 [(0x800010F4#32, 0x80000000#32)]) false 0x80001100#32 0x80001100#32) fun r =>
        { r with wdesc := d }
      s.trouble = none ∧ s.agenda = [] ∧ s.inChain = false ∧ s.cache.waiting = false ∧ s.ctl.gross = .running ∧
      s.intEnabled = true ∧ s.shadowValid = false ∧ s.hi.fptr ≠ 0x80000000#32 ∧ s.hi.fptr &&& 3#32 = 0#32 ∧
      s.Plain (s.hi.fptr - 4#32) ∧ s.Plain (s.hi.fptr - 8#32) ∧ s.Plain (s.hi.fptr - 12#32) ∧
      s.wordAt (s.hi.fptr - 12#32) = 0x80000000#32 ∧ (s.r.wdesc.getLsbD 0 = true ∨ s.r.wdesc = 0x80000000#32)) ∧
    (let u := { plainSt 0#32 0#32 0#32 [] with shadowValid := true, sh := { Regs.reset with wdesc := 0x80001201#32 } }
     u.trouble = none ∧ u.hi.fptr = 0x80000000#32 ∧ u.shadowValid = true ∧ u.sh.wdesc ≠ 0x80000000#32 ∧
     u.ctl.gross ≠ .stopping) := by decide +kernel

/-- Each priority; an empty and a non-empty list, an empty and a non-empty operand. -/
theorem witness_QueueInstructions : ∀ x ∈ [(plainSt 0#32 0x80000000#32 3#32 [], false),
      (plainSt 0#32 0x80001200#32 0x80001300#32 [], false), (listed 1#32 0x80001200#32 0x80001200#32 [], true)],
    x.1.plain ∧ x.1.mem.wf = true ∧ x.1.r.areg = (if x.2 then 1#32 else 0#32) ∧
    (x.1.r.breg = 0x80000000#32 ∨ (x.1.r.breg &&& 3#32 = 0#32 ∧ x.1.r.creg &&& 3#32 = 0#32 ∧
      x.1.Plain (x.1.r.creg - 8#32) ∧ x.1.Plain (x.1.r.breg - 24#32))) := by decide +kernel

theorem witness_QueueInstructions_lists : (plainSt 0#32 0x80001200#32 0x80001300#32 []).hi.fptr = 0x80000000#32 ∧
    (listed 1#32 0x80001200#32 0x80001200#32 []).lo.fptr ≠ 0x80000000#32 := by decide +kernel

/-- Counts 1, the most negative and 0 with no process waiting; 0 with one waiting. -/
theorem witness_Semaphores_wait : Each [(1#32, 0x80000000#32), (0x80000000#32, 0x80000000#32), (0#32, 0x80000000#32),
      (0#32, 0x80001401#32)] fun x =>
    let s := plainSt 0x80001201#32 0#32 0#32 [(0x80001200#32, x.1), (0x80001204#32, x.2), (0x80001208#32, 0x80001401#32)]
    let a := s.r.areg &&& 0xFFFFFFFC#32
    let last := (s.wordAt (a + 8#32) &&& 0xFFFFFFFC#32) - 8#32
    s.plain ∧ s.mem.wf = true ∧ s.WordOperand s.r.areg ∧ s.Plain a ∧ s.Plain (a + 4#32) ∧ s.Plain (a + 8#32) ∧
    s.wordAt a = x.1 ∧ s.wordAt (a + 4#32) = x.2 ∧ s.r.status.getLsbD 7 = false ∧ s.CanIdle ∧ s.Plain last ∧
    [a + 4#32, a + 8#32, s.w - 4#32, s.w - 12#32].Nodup ∧ [last, a + 8#32, s.w - 4#32, s.w - 12#32].Nodup := by decide +kernel

/-- The greatest count. -/
theorem witness_Semaphores_signal_overflow :
    let s := plainSt 0x80001200#32 0#32 0#32 [(0x80001200#32, 0x7FFFFFFF#32), (0x80001204#32, 0x80000000#32)]
    s.plain ∧ s.mem.wf = true ∧ s.WordOperand s.r.areg ∧ s.Plain s.r.areg ∧ s.Plain (s.r.areg + 4#32) ∧
    s.Plain (s.r.areg + 8#32) ∧ s.wordAt (s.r.areg + 4#32) = 0x80000000#32 ∧ s.wordAt s.r.areg = 0x7FFFFFFF#32 ∧
    s.r.status.getLsbD 7 = false := by decide +kernel

/-- No process waiting, one, and two. -/
theorem witness_Semaphores_signal : Each [(0x80000000#32, 0#32), (0x80001101#32, 0x80001101#32), (0x80001101#32, 0x80001301#32)] fun x =>
    let s := plainSt 0x80001200#32 0#32 0#32 [(0x80001204#32, x.1), (0x80001208#32, x.2)]
    s.plain ∧ s.mem.wf = true ∧ s.WordOperand s.r.areg ∧ s.Plain s.r.areg ∧ s.Plain (s.r.areg + 4#32) ∧
    s.Plain (s.r.areg + 8#32) ∧ s.wordAt (s.r.areg + 4#32) = x.1 ∧ s.wordAt (s.r.areg + 8#32) = x.2 ∧
    s.wordAt s.r.areg ≠ 0x7FFFFFFF#32 ∧ s.CanAppend true ∧ s.r.areg + 4#32 ∉ s.appendPlace true ∧
    (x.1 ≠ 0x80000000#32 → s.Plain ((x.1 &&& 0xFFFFFFFC#32) - 8#32)) := by decide +kernel

/-- The clock at 1000 and the alarm time 999: past. -/
theorem witness_TimerInputAndTimers : let s := listed 999#32 0#32 0#32 []
    s.plain ∧ s.mem.wf = true ∧ 0 < ((s.sched (s.r.wdesc.getLsbD 0)).clock - s.r.areg).toInt := by decide +kernel

/-- The alarm time 1000, with no list: not past. -/
theorem witness_TimerInputAndTimers_waits : let s := queued (listed 1000#32 0#32 0#32 []) true 0x80000000#32 0#32
    s.plain ∧ s.mem.wf = true ∧ ¬0 < ((s.sched (s.r.wdesc.getLsbD 0)).clock - s.r.areg).toInt ∧ s.lo.tptr = 0x80000000#32 ∧
    s.CanIdle ∧ s.Plain (s.w - 16#32) ∧ s.Plain (s.w - 20#32) ∧ s.Plain (s.w - 24#32) := by decide +kernel

/-- The process #80001100 on the low priority timer list, due at 1000 with the clock there, in each of the three states; the
last of the list, or with #80001400 after it. -/
def expiring (state next : Word) : State :=
  let s := listed 0#32 0#32 0#32 [(0x800010F0#32, state), (0x800010EC#32, next), (0x800013E8#32, 1001#32)]
  { s with agenda := [.serveTimer true], clockRunning := true, lo := { s.lo with tptr := 0x80001100#32, tnext := 1000#32 } }

theorem witness_TimerInputAndTimers_agent : Each [(0x80000001#32, 0x80000000#32), (0x80000002#32, 0x80001400#32),
      (0x80000003#32, 0x80000000#32)] fun x =>
    let s := expiring x.1 x.2
    let q := s.sched true
    let w := q.tptr
    let next := s.wordAt (w - 20#32)
    s.inChain = false ∧ s.cache.waiting = false ∧ s.trouble = none ∧ s.mem.wf = true ∧ s.ctl.gross = .running ∧
    w ≠ 0x80000000#32 ∧ w &&& 3#32 = 0#32 ∧ ¬ 0 < (q.tnext - q.clock).toInt ∧
    (next = 0x80000000#32 ∨ s.Plain (next - 24#32)) ∧ s.clockRunning = true ∧
    s.Plain (w - 16#32) ∧ s.Plain (w - 20#32) ∧ s.CanAppend true ∧ w - 16#32 ∉ s.appendPlace true ∧
    w - 20#32 ∉ s.appendPlace true ∧ s.wordAt (w - 16#32) = x.1 := by decide +kernel

/-- A tick at the end of a low priority period and of a timeslice period, and at neither; an empty high priority list and a
low priority front that is due a microsecond later. -/
theorem witness_TimerInputAndTimers_tick : Each [63#8, 255#8, 0#8] fun p =>
    let s := { expiring 0x80000001#32 0x80000000#32 with tickPhase := p, agenda := [.tick] }
    let u := { s with agenda := [.serveTimer false] }
    let v := { s with agenda := [.serveTimer true], lo := { s.lo with tnext := 1001#32 } }
    s.inChain = false ∧ s.cache.waiting = false ∧ s.trouble = none ∧ s.clockRunning = true ∧
    (u.sched false).tptr = 0x80000000#32 ∧ 0 < ((v.sched true).tnext - (v.sched true).clock).toInt := by decide +kernel

/-- The 64th tick advances both clocks (42_process_sched.md R350), and takes no process off the list that it makes due. -/
theorem test_tick : (match step { expiring 0x80000001#32 0x80000000#32 with
      tickPhase := 63#8, agenda := [.tick], lo := { (expiring 0#32 0#32).lo with clock := 999#32 } } with
    | .next t => t.lo.clock == 1000#32 && t.hi.clock == 1#32 && t.lo.tptr == 0x80001100#32
    | _ => false) = true := by decide +kernel

/-- A high priority process with a block of words at #80002000. -/
def shadowSt (a b : Word) (cells : List (Word × Word)) : State :=
  regs (plainSt a b 0x80002003#32 cells) fun r => { r with wdesc := 0x80001000#32 }

/-- All the groups: 28 words. -/
theorem witness_ShadowRegisters_stshadow : let s := shadowSt 0#32 7#32 []
    s.plain ∧ s.mem.wf = true ∧ s.WordOperand s.r.creg ∧ s.r.wdesc.getLsbD 0 = false ∧ 0 ≤ s.r.areg.toInt ∧
    s.r.areg.toInt < s.r.breg.toInt ∧ s.r.breg.toInt ≤ 7 ∧ s.sh.fpWords.length = 7 ∧
    ∀ k : Nat, k < 28 → s.Plain ((s.r.creg &&& 0xFFFFFFFC#32) + BitVec.ofNat 32 (4 * k)) := by decide +kernel

/-- A block for the groups between two markers that the rules of all admit: each group alone, several, and all. -/
def shadowBlock (g n : Nat) (d : Word) : State :=
  let all : List Word := [1#32, 2#32, 3#32, 4#32, 0x80003000#32, 0x80003001#32, 0x80003000#32, 0x6E0BFFCC#32, d, 10#32, 11#32,
    12#32, 13#32, 14#32, 15#32, 16#32, 17#32, 18#32, 19#32, 0x57#32, 21#32, 22#32, 23#32, 24#32, 25#32, 26#32,
    0x80000100#32, 0x80000100#32]
  let size (k : Nat) : Nat := ([4, 2, 1, 1, 11, 7, 2].take k).sum
  let t := shadowSt (BitVec.ofNat 32 g) (BitVec.ofNat 32 n)
    ((List.range (size n - size g)).map fun k => (0x80002000#32 + BitVec.ofNat 32 (4 * k), all.getD (size g + k) 0#32))
  { t with sh := { t.sh with wl := 0x80000100#32, wu := 0x80000104#32 } }

theorem witness_ShadowRegisters_ldshadow : Each [(0, 1, 0#32), (1, 2, 0#32), (2, 3, 0#32), (3, 4, 0#32), (4, 5, 0x80000000#32),
      (4, 5, 0x80003001#32), (5, 6, 0#32), (6, 7, 0#32), (0, 7, 0x80003001#32), (3, 7, 0x80000000#32)] fun x =>
    let s := shadowBlock x.1 x.2.1 x.2.2
    let size (first : Nat) : Nat := (([4, 2, 1, 1, 11, 7, 2].take first).drop x.1).sum
    let v (k j : Nat) : Word := s.wordAt (0x80002000#32 + BitVec.ofNat 32 (4 * (size k + j)))
    let on (k : Nat) : Bool := decide (x.1 ≤ k ∧ k < x.2.1)
    s.plain ∧ s.WordOperand s.r.creg ∧ s.r.wdesc.getLsbD 0 = false ∧ s.r.areg = BitVec.ofNat 32 x.1 ∧
    s.r.breg = BitVec.ofNat 32 x.2.1 ∧ (∀ k : Nat, k < size x.2.1 → s.Plain (0x80002000#32 + BitVec.ofNat 32 (4 * k))) ∧
    (on 1 = true → v 1 0 &&& 3#32 = 0#32 ∧ v 1 1 &&& 3#32 = 1#32) ∧ (on 2 = true → v 2 0 &&& 3#32 = 0#32) ∧
    (on 3 = true → v 3 0 &&& 0x11F40033#32 = 0#32) ∧ (on 4 = true → v 4 0 = x.2.2) ∧
    (on 5 = true → v 5 0 &&& 0xA8#32 = 0#32) ∧ badBounds s.sh.wl s.sh.wu = false ∧
    (on 6 = true → badBounds (v 6 0) (v 6 1) = false) := by decide +kernel

/-! ### Channels, alternatives, resources -/

theorem witness_CommunicationWaits : let s := plainSt 0xFFFFFFFE#32 0x80001203#32 0x80003000#32 [(0x80001200#32, 0x80000000#32)]
    let c := s.r.breg &&& 0xFFFFFFFC#32
    s.plain ∧ s.mem.wf = true ∧ s.WordOperand s.r.breg ∧ s.kind c = .internal ∧ s.wordAt c = 0x80000000#32 ∧ s.CanIdle ∧
    s.Plain c ∧ s.Plain (s.w - 16#32) ∧ [c, s.w, s.w - 4#32, s.w - 8#32, s.w - 12#32, s.w - 16#32].Nodup ∧ s.Plain s.w ∧
    s.Plain (s.w - 8#32) ∧ s.r.areg ≠ 0xFFFFFFFF#32 := by decide +kernel

/-- The process `d` has enabled the channel #80001200, or waits in the alternative. -/
theorem witness_CommunicationWaits_alternative : Each [(0x80002001#32, 0x80000001#32), (0x80002001#32, 0x80000002#32),
      (0x80002000#32, 0x80000002#32), (0x80002000#32, 0x80000003#32)] fun x =>
    let s := plainSt 8#32 0x80001203#32 0x80003000#32 [(0x80001200#32, x.1), (0x80001FF0#32, x.2), (0x80001FF4#32, 0x80000000#32)]
    let c := s.r.breg &&& 0xFFFFFFFC#32
    let w := s.wordAt c &&& 0xFFFFFFFC#32
    s.plain ∧ s.mem.wf = true ∧ s.WordOperand s.r.breg ∧ s.kind c = .internal ∧ s.wordAt c ≠ 0x80000000#32 ∧ s.CanIdle ∧
    s.Plain c ∧ s.wordAt c ≠ 0x80000002#32 ∧ s.wordAt (w - 16#32) = x.2 ∧ w ≠ 0x80000000#32 ∧ s.Plain (w - 4#32) ∧
    s.Plain (w - 12#32) ∧ s.wordAt (w - 12#32) = 0x80000000#32 ∧
    (Each [w - 16#32, s.w, c, s.w - 16#32, s.w - 8#32] fun a => s.Plain a) ∧
    [s.w - 4#32, s.w - 12#32, w - 4#32, w - 12#32, w - 16#32, s.w, c, s.w - 16#32, s.w - 8#32].Nodup := by decide +kernel

/-- The channel #80001200 of the resource #80002400, whose queue is empty or ends with #80002800; with no server, a server whose
alternative is enabled or waits, or one waiting in `grant`. -/
theorem witness_CommunicationWaits_resource : Each [(0x80000000#32, 0x80000000#32, 0#32), (0x80002800#32, 0x80000000#32, 0#32),
      (0x80000000#32, 0x80002001#32, 0x80000001#32), (0x80002800#32, 0x80002001#32, 0x80000002#32),
      (0x80000000#32, 0x80002001#32, 0x80002C00#32)] fun x =>
    let s := plainSt 8#32 0x80001203#32 0x80003000#32 [(0x80001200#32, 0x80000002#32), (0x80001204#32, 0x80002400#32),
      (0x80001208#32, 55#32), (0x80002400#32, x.2.1), (0x80002404#32, x.1), (0x80002408#32, 0x80002800#32),
      (0x80001FF0#32, x.2.2), (0x80001FF4#32, 0x80000000#32)]
    let c := s.r.breg &&& 0xFFFFFFFC#32
    let r := s.wordAt (c + 4#32)
    let w := s.wordAt r &&& 0xFFFFFFFC#32
    let back := s.wordAt (r + 8#32)
    s.plain ∧ s.mem.wf = true ∧ s.WordOperand s.r.breg ∧ s.kind c = .internal ∧ s.wordAt c = 0x80000002#32 ∧ s.CanIdle ∧
    r &&& 3#32 = 0#32 ∧ s.kind back = .internal ∧ back &&& 3#32 = 0#32 ∧ s.wordAt r = x.2.1 ∧ s.wordAt (r + 4#32) = x.1 ∧
    (x.2.1 ≠ 0x80000000#32 → s.wordAt (w - 16#32) = x.2.2 ∧ s.Plain (w - 4#32) ∧ s.Plain (w - 12#32) ∧
      s.Plain (w - 16#32) ∧ s.wordAt (w - 12#32) = 0x80000000#32) ∧
    (Each [s.w, c, c + 4#32, c + 8#32, r, r + 4#32, r + 8#32, back + 4#32, s.w - 16#32, s.w - 8#32, 0x80002C00#32] fun a =>
      s.Plain a) ∧
    [s.w - 4#32, s.w - 12#32, w - 4#32, w - 12#32, w - 16#32, s.w, c, c + 4#32, c + 8#32, r, r + 4#32, r + 8#32, back + 4#32,
      s.w - 16#32, s.w - 8#32, 0x80002C00#32].Nodup := by decide +kernel

/-- The process #80002001 waits on #80001200 with a message at #80003000; this process's is at #80003008. -/
def meeting (n : Word) (m : Word) : State := plainSt n 0x80001202#32 0x80003008#32
  [(0x80001200#32, 0x80002001#32), (0x80001FF0#32, 0x80003000#32), (0x80001FF8#32, m)]

/-- Adjacent messages of eight bytes; the other process outputs what is in its pw.Temp, or another message. -/
theorem witness_CommunicationCompletes : Each [[], [0x80002001#32]] fun temps =>
    let s := { meeting 8#32 8#32 with temps := temps }
    let c := s.r.breg &&& 0xFFFFFFFC#32
    let d := s.wordAt c
    let w := d &&& 0xFFFFFFFC#32
    let low := d.getLsbD 0
    let q := s.wordAt (w - 16#32)
    let n := s.r.areg.toNat
    let m := s.wordAt (w - 8#32)
    s.plain ∧ s.mem.wf = true ∧ s.WordOperand s.r.breg ∧ s.kind c = .internal ∧ d ≠ 0x80000000#32 ∧ d ≠ 0x80000002#32 ∧
    q ≠ 0x80000001#32 ∧ q ≠ 0x80000002#32 ∧ q ≠ 0x80000003#32 ∧ s.Plain c ∧ s.Plain (w - 16#32) ∧ s.CanAppend low ∧
    c ∉ s.appendPlace low ∧ s.r.areg ≠ 0xFFFFFFFF#32 ∧ s.Plain (w - 8#32) ∧ m.toNat ≤ n ∧ n ≤ m.toNat ∧ c ≠ w - 16#32 ∧ c ≠ s.w - 16#32 ∧
    c ≠ w ∧ s.Plain w ∧ w ∉ s.appendPlace low ∧ s.w - 16#32 ≠ w ∧
    (Each [(s.r.creg, q), (q, s.r.creg)] fun x => n ≤ (x.1 - x.2).toNat ∧ n ≤ (x.2 - x.1).toNat ∧
      ∀ k : Nat, k < n → s.Plain (x.1 + BitVec.ofNat 32 k) ∧ s.Plain (x.2 + BitVec.ofNat 32 k) ∧
      (x.1 + BitVec.ofNat 32 k) &&& 0xFFFFFFFC#32 ∉ [c, s.w - 16#32, w - 16#32, w] ++ s.appendPlace low ∧
      (x.2 + BitVec.ofNat 32 k) &&& 0xFFFFFFFC#32 ∉ [c, s.w - 16#32, w - 16#32]) ∧
    (Each [(s.w - 16#32, w - 16#32), (w - 16#32, s.w - 16#32)] fun x => s.Plain x.1 ∧ x.1 ≠ c ∧
      x.1 ∉ [x.2] ++ s.appendPlace low) := by decide +kernel

theorem witness_WordOutputCompletes : let s := meeting 0x12345678#32 0#32
    let c := s.r.breg &&& 0xFFFFFFFC#32
    let d := s.wordAt c
    let w := d &&& 0xFFFFFFFC#32
    let low := d.getLsbD 0
    let q := s.wordAt (w - 16#32)
    s.plain ∧ s.mem.wf = true ∧ s.WordOperand s.r.breg ∧ s.kind c = .internal ∧ d ≠ 0x80000000#32 ∧ d ≠ 0x80000002#32 ∧
    q ≠ 0x80000001#32 ∧ q ≠ 0x80000002#32 ∧ q ≠ 0x80000003#32 ∧ s.Plain c ∧ s.Plain s.w ∧ s.Plain (w - 16#32) ∧
    s.CanAppend low ∧ [c, s.w, w - 16#32].Nodup ∧ c ∉ s.appendPlace low ∧ s.w ∉ s.appendPlace low ∧
    ∀ k : Nat, k < 4 → s.Plain (q + BitVec.ofNat 32 k) ∧
      (q + BitVec.ofNat 32 k) &&& 0xFFFFFFFC#32 ∉ [c, s.w] ++ s.appendPlace low := by decide +kernel

/-- What both enabling and disabling ask of a state, for a guard at the address `b`. -/
abbrev Guarded (s : State) (b : Word) : Prop := s.plain ∧ s.mem.wf = true ∧ s.Plain s.w ∧ s.Plain (s.w - 16#32) ∧
  s.Plain (s.w - 20#32) ∧ s.Plain (s.w - 24#32) ∧ s.WordOperand b ∧ s.Plain (b &&& 0xFFFFFFFC#32) ∧
  s.kind (b &&& 0xFFFFFFFC#32) = .internal ∧ s.Plain ((b &&& 0xFFFFFFFC#32) + 4#32) ∧
  (b &&& 0xFFFFFFFC#32) ≠ s.w - 16#32 ∧ (b &&& 0xFFFFFFFC#32) ≠ s.w

/-- The guard false; the channel idle, enabled by this process, ready; no server, a server. -/
theorem witness_EnablingGuards : Guarded (plainSt 0#32 0x80001200#32 3#32 []) 0x80001200#32 ∧
    Each [(0x80000000#32, 0x80000000#32), (0x80001001#32, 0x80005000#32), (0x80005001#32, 0x80000000#32)] fun x =>
      let s := plainSt 1#32 0x80001202#32 3#32 [(0x80001200#32, x.1), (0x80001204#32, x.2)]
      Guarded s s.r.breg ∧ s.r.areg ≠ 0#32 ∧ s.wordAt 0x80001200#32 = x.1 ∧ s.wordAt 0x80001204#32 = x.2 ∧
      s.r.wdesc = 0x80001001#32 := by decide +kernel

/-- No time set; a later and an equal time set. -/
theorem witness_EnablingGuards_timer : Each [(0x80000002#32, 0#32, 0#32), (0x80000001#32, 901#32, 900#32),
      (0x80000001#32, 900#32, 900#32)] fun x =>
    let s := plainSt 1#32 x.2.2 3#32 [(0x80000FEC#32, x.1), (0x80000FE8#32, x.2.1)]
    s.plain ∧ s.mem.wf = true ∧ s.Plain (s.w - 16#32) ∧ s.Plain (s.w - 20#32) ∧ s.Plain (s.w - 24#32) ∧ s.r.areg ≠ 0#32 ∧
    s.wordAt (s.w - 20#32) = x.1 ∧ (s.wordAt (s.w - 24#32) - s.r.breg).toInt = (x.2.1 - x.2.2).toInt := by decide +kernel

/-- A guard ready, none ready; no time set, a time set that is past. -/
theorem witness_AlternativeWait : Each [(0x80000003#32, 0x80000002#32, 0#32), (0x80000001#32, 0x80000002#32, 0#32),
      (0x80000001#32, 0x80000001#32, 0xFFFFFFFF#32), (0x80000001#32, 0x80000001#32, 0#32)] fun x =>
    let s := plainSt 0#32 0#32 0#32 [(0x80000FF0#32, x.1), (0x80000FEC#32, x.2.1), (0x80000FE8#32, x.2.2)]
    s.plain ∧ s.mem.wf = true ∧ s.Plain s.w ∧ s.Plain (s.w - 16#32) ∧ s.CanIdle ∧ s.Plain (s.w - 20#32) ∧
    s.Plain (s.w - 24#32) ∧ s.wordAt (s.w - 16#32) = x.1 ∧ s.wordAt (s.w - 20#32) = x.2.1 ∧
    s.r.wdesc.getLsbD 0 = true ∧ (s.sched true).tptr = 0x80000000#32 ∧
    ((s.sched true).clock - s.wordAt (s.w - 24#32)).toInt = (if x.2.2 = 0#32 then 0 else 1) := by decide +kernel

/-- The guard false; the channel idle, enabled by this process, ready; with no guard selected and with one. -/
theorem witness_DisablingGuards : Guarded (plainSt 12#32 0#32 0x80001200#32 []) 0x80001200#32 ∧
    Each [(0x80000000#32, 0x80000000#32, 0xFFFFFFFF#32), (0x80001001#32, 0x80005000#32, 12#32),
        (0x80005001#32, 0x80000000#32, 0xFFFFFFFF#32), (0x80005001#32, 0x80005000#32, 12#32)] fun x =>
      let s := plainSt 12#32 1#32 0x80001202#32 [(0x80001200#32, x.1), (0x80001204#32, x.2.1), (0x80001000#32, x.2.2)]
      Guarded s s.r.creg ∧ s.r.breg ≠ 0#32 ∧ s.wordAt 0x80001200#32 = x.1 ∧ s.wordAt 0x80001204#32 = x.2.1 ∧
      s.wordAt s.w = x.2.2 ∧ s.r.wdesc = 0x80001001#32 := by decide +kernel

theorem witness_DisablingGuards_timer : Each [(0x80000002#32, 0#32, 0#32), (0x80000001#32, 901#32, 900#32),
      (0x80000001#32, 900#32, 900#32)] fun x =>
    let s := plainSt 12#32 1#32 x.2.2 [(0x80000FEC#32, x.1), (0x80000FE8#32, x.2.1)]
    s.plain ∧ s.mem.wf = true ∧ s.Plain s.w ∧ s.Plain (s.w - 20#32) ∧ s.Plain (s.w - 24#32) ∧ s.r.breg ≠ 0#32 ∧
    s.wordAt (s.w - 20#32) = x.1 ∧ (s.wordAt (s.w - 24#32) - s.r.creg).toInt = (x.2.1 - x.2.2).toInt := by decide +kernel

/-- The process that disables at the front of its timer list, the last and with another after it. -/
theorem witness_DisablingGuards_listed : Each [0x80000000#32, 0x80001400#32] fun next =>
    let s := plainSt 12#32 1#32 900#32 [(0x80000FEC#32, next)]
    let s := { s with lo := { s.lo with tptr := 0x80001000#32 } }
    s.plain ∧ s.mem.wf = true ∧ s.Plain s.w ∧ s.Plain (s.w - 20#32) ∧ s.r.breg ≠ 0#32 ∧ s.wordAt (s.w - 20#32) = next ∧
    (s.sched (s.r.wdesc.getLsbD 0)).tptr = s.w ∧ (next = 0x80000000#32 ∨ s.Plain (next - 24#32)) := by decide +kernel

/-- A channel that is not a resource channel, and one that is: unused, and with a process waiting. -/
theorem witness_ResourceInstructions : Each [(0x80000000#32, 0x80000000#32), (0x80000002#32, 7#32), (0x80005001#32, 7#32)] fun x =>
    let s := plainSt 0x80001203#32 0x80001300#32 7#32 [(0x80001200#32, x.1), (0x80001204#32, 0x80001300#32), (0x80001208#32, x.2)]
    let c := s.r.areg &&& 0xFFFFFFFC#32
    s.plain ∧ s.mem.wf = true ∧ s.WordOperand s.r.areg ∧ s.kind c = .internal ∧ s.Plain c ∧ s.Plain (c + 4#32) ∧
    s.Plain (c + 8#32) ∧ s.wordAt (c + 8#32) = x.2 ∧ s.wordAt c = x.1 ∧ s.Plain (s.r.breg &&& 0xFFFFFFFC#32) ∧
    c ∉ s.rcTails := by decide +kernel

/-- A resource queue with nothing, one channel, two channels. -/
theorem witness_ResourceInstructions_queue : Each [(0x80000000#32, 0#32), (0x80001200#32, 0x80001200#32),
      (0x80001200#32, 0x80001400#32)] fun x =>
    let s := plainSt 0x80001301#32 0x80002012#32 0x80001500#32 [(0x80001304#32, x.1), (0x80001308#32, x.2)]
    let u := plainSt 0x80001301#32 0x80002010#32 0x80001500#32 [(0x80001304#32, x.1), (0x80001308#32, x.2)]
    let a := s.r.areg &&& 0xFFFFFFFC#32
    let b := s.r.breg &&& 0xFFFFFFFC#32
    let c := s.wordAt (a + 4#32)
    s.plain ∧ s.mem.wf = true ∧ s.WordOperand s.r.areg ∧ s.Plain a ∧ s.Plain (a + 4#32) ∧ s.Plain (a + 8#32) ∧
    s.WordOperand s.r.breg ∧ s.CanIdle ∧ s.Plain (s.w - 16#32) ∧ [a, s.w - 4#32, s.w - 12#32, s.w - 16#32].Nodup ∧ c = x.1 ∧
    s.wordAt (a + 8#32) = x.2 ∧ (c ≠ 0x80000000#32 → s.kind c = .internal ∧ c &&& 3#32 = 0#32 ∧ s.Plain b ∧
      s.Plain (c + 4#32) ∧ s.Plain (c + 8#32) ∧ [a + 4#32, b, c + 4#32, c + 8#32].Nodup) ∧
    u.plain ∧ u.mem.wf = true ∧ u.r.breg &&& 3#32 = 0#32 ∧ u.r.creg &&& 3#32 = 0#32 ∧ u.kind u.r.creg = .internal ∧
    u.Plain (u.r.creg + 4#32) ∧ u.r.creg ≠ a := by decide +kernel

/-! ### Context -/

theorem witness_ContextInstructions_goprot : let s := goprotSt
    let p := s.r.areg
    let d := s.r.breg
    s.plain ∧ s.mem.wf = true ∧ s.r.th = 0x80000000#32 ∧ p &&& 3#32 = 0#32 ∧ d &&& 3#32 = 0#32 ∧ s.Plain (s.w - 4#32) ∧
    (∀ k : Nat, k < 11 → s.Plain (p + BitVec.ofNat 32 (4 * k)) ∧ s.w - 4#32 ≠ p + BitVec.ofNat 32 (4 * k)) ∧
    (∀ k : Nat, k < 4 → s.Plain (d + BitVec.ofNat 32 (4 * k)) ∧ s.w - 4#32 ≠ d + BitVec.ofNat 32 (4 * k)) ∧
    anyRegionsMeet ⟨s.wordAt d, s.wordAt (d + 4#32), s.wordAt (d + 8#32), s.wordAt (d + 12#32)⟩ = false ∧
    s.wordAt p &&& 0x31F40033#32 = 0#32 ∧ s.wordAt p &&& 0x39F40033#32 = 0#32 ∧ s.wordAt (p + 16#32) &&& 3#32 = 0#32 := by
  decide +kernel

/-- A block whose ps.Xreg is 0. -/
theorem witness_ContextInstructions_restart : let s := goprotSt
    let p := s.r.areg
    s.plain ∧ s.mem.wf = true ∧ s.r.th = 0x80000000#32 ∧ p &&& 3#32 = 0#32 ∧
    (∀ k : Nat, k < 11 → s.Plain (p + BitVec.ofNat 32 (4 * k))) ∧ s.wordAt p &&& 0x39F40033#32 = 0#32 ∧
    s.wordAt (p + 16#32) &&& 3#32 = 0#32 := by decide +kernel

theorem witness_ContextInstructions_selth : let s := plainSt 0x80003000#32 2#32 3#32 [(0x80003000#32, 0x00080080#32)]
    (plainSt 0x80000000#32 2#32 3#32 []).plain ∧ (plainSt 0x80000000#32 2#32 3#32 []).r.areg = 0x80000000#32 ∧
    s.plain ∧ s.mem.wf = true ∧ s.r.th = 0x80000000#32 ∧ s.r.areg &&& 3#32 = 0#32 ∧ s.r.areg ≠ 0x80000000#32 ∧
    s.Plain s.r.areg ∧ (s.wordAt s.r.areg).getLsbD 31 = false ∧ s.wordAt s.r.areg &&& 0x31F40033#32 = 0#32 := by decide +kernel

/-- A trap-handler that ends, with Areg 0 or not, and with no process queued or one. -/
def ending (a queue : Word) : State := plainSt a 2#32 3#32 [(0x80001000#32, 0x80000080#32), (0x80001008#32, queue),
  (0x8000100C#32, queue), (0x8000101C#32, 0x80000F00#32), (0x80001020#32, 0x80000404#32), (0x80001024#32, 11#32)]

theorem witness_ContextInstructions_tret : ∀ s ∈ [ending 0#32 0x80000000#32, ending 1#32 0x80000000#32],
    s.plain ∧ s.mem.wf = true ∧ s.r.th = 0x80000000#32 ∧ s.w ≠ 0x80000000#32 ∧ s.w ∉ s.descheduled ∧
    (∀ k : Nat, k < 12 → s.Plain (s.w + BitVec.ofNat 32 (4 * k))) ∧ s.wordAt (s.w + 8#32) = 0x80000000#32 ∧
    s.wordAt s.w &&& 0x31F40033#32 = 0#32 ∧ s.wordAt (s.w + 28#32) &&& 3#32 = 0#32 ∧ s.Alone := by decide +kernel

theorem witness_ContextInstructions_tret_queue : let s := ending 0#32 0x80001100#32
    s.plain ∧ s.mem.wf = true ∧ s.r.th = 0x80000000#32 ∧ s.w ≠ 0x80000000#32 ∧ s.w ∉ s.descheduled ∧
    (∀ k : Nat, k < 12 → s.Plain (s.w + BitVec.ofNat 32 (4 * k))) ∧ s.wordAt (s.w + 8#32) ≠ 0x80000000#32 ∧
    (s.sched (s.r.wdesc.getLsbD 0)).fptr = 0x80000000#32 ∧ s.r.areg = 0#32 ∧ s.wordAt (s.w + 8#32) &&& 3#32 = 0#32 ∧
    s.wordAt (s.w + 12#32) &&& 3#32 = 0#32 ∧ s.wordAt (s.w + 28#32) &&& 3#32 = 0#32 ∧
    s.wordAt s.w &&& 0x31F40033#32 = 0#32 := by decide +kernel

/-! ### Floating point -/

theorem witness_FpStackAndMode : (fpSt (single 0x7F800000#32) (single 0x7FC00000#32) 0#2).calm := by decide +kernel

/-- 2^24, the greatest integer `fpi32tor32` is told of, and −2^24; a single and a double in FPAreg. -/
theorem witness_FpLoads : ∀ x ∈ [(single 0x3F800000#32, 0x01000000#32), (double 0x3FF0000000000000#64, 0xFF000000#32)],
    let s := fpMem x.1 0#2 x.2 1#32
    let u := regs s fun r => { r with breg := 0xFFFFFFFF#32 }
    let a := s.r.areg &&& 0xFFFFFFFC#32
    s.calm ∧ s.WordOperand s.r.areg ∧ s.NoFpTrap ∧ s.CanRead false a 0x80003000#32 ∧
    s.CanRead false (a + 4#32) 0x80003004#32 ∧ s.wordAt 0x80003000#32 = x.2 ∧
    u.calm ∧ u.CanRead false (a + 4#32 * u.r.breg) 0x80002FFC#32 ∧ u.CanRead false (a + 8#32 * u.r.breg) 0x80002FF8#32 ∧
    u.CanRead false (a + 8#32 * u.r.breg + 4#32) 0x80002FFC#32 := by decide +kernel

theorem witness_FpLoads_integer : -16777216 ≤ (0xFF000000#32 : Word).toInt ∧ (0x01000000#32 : Word).toInt ≤ 16777216 := by
  decide +kernel

theorem witness_FpLoads_fpldall : let s := fpMem (single 0#32) 0#2 0x57#32 1#32
    s.plain ∧ s.WordOperand s.r.areg ∧
    (∀ k : Nat, k < 7 → s.Plain ((s.r.areg &&& 0xFFFFFFFC#32) + BitVec.ofNat 32 (4 * k))) ∧
    s.wordAt ((s.r.areg &&& 0xFFFFFFFC#32) + BitVec.ofNat 32 (4 * 0)) &&& 0xFFFFFFA8#32 = 0#32 := by decide +kernel

/-- A single and a double in FPAreg; the greatest single below 2^63 and −2^63 (`fpstnli32`). -/
theorem witness_FpStores : ∀ x ∈ [single 0x5EFFFFFF#32, single 0xDF000000#32, double 0x43DFFFFFFFFFFFFF#64],
    let s := fpMem x 0#2 0#32 0#32
    let a := s.r.areg &&& 0xFFFFFFFC#32
    s.plain ∧ s.mem.wf = true ∧ s.WordOperand s.r.areg ∧ s.CanWrite false a 0x80003000#32 ∧ s.watches a = false ∧
    s.r.fpA.special = false ∧ s.Plain a ∧ s.Plain (a + 4#32) ∧
    ∀ k : Nat, k < 7 → s.Plain (a + BitVec.ofNat 32 (4 * k)) := by decide +kernel

theorem witness_FpStores_fpstnli32 : (single 0xDF000000#32).units / fpOne = -(2 ^ 63) ∧
    (single 0x5EFFFFFF#32).units / fpOne < 2 ^ 63 ∧ -(2 ^ 63) ≤ (single 0x5EFFFFFF#32).units / fpOne ∧
    (double 0x3FF0000000000000#64).dbl = true ∧ (single 0#32).dbl = false := by decide +kernel

theorem witness_FpArithmeticCompletes : ∀ s ∈ [fpSt (single 0x3F800000#32) (single 0x40000000#32) 0#2,
      fpSt (double 0x3FF0000000000000#64) (double 0x4000000000000000#64) 0#2],
    s.calm ∧ s.cpuMode = .whole ∧ s.NoFpTrap ∧ s.r.fpA.dbl = s.r.fpB.dbl ∧ s.r.fpA.nan = false ∧ s.r.fpA.special = false := by
  decide +kernel

theorem witness_FpArithmeticCompletes_formed : (single 0x40000000#32).Formed ∧ (double 0x4000000000000000#64).Formed := by
  unfold FpEntry.Formed
  decide +kernel

/-- `s` with these two numbers, one of which is to be the operation's exact result `r`. -/
abbrev ExactFor (b a r : FpEntry) : Prop := (fpSt b a 0#2).calm ∧ (fpSt b a 0#2).NoFpTrap ∧ (r.dbl = false → r.bits >>> 32 = 0#64) ∧
  r.special = false ∧ r.units ≠ 0 ∧ a.special = false ∧ b.special = false

/-- 3 + 2 = 5, 3 − 2 = 1, 3 × 2 = 6, 3 / 2 = 1.5. -/
theorem witness_ArithmeticDeliversTheRoundedResult : let b := single 0x40400000#32
    let a := single 0x40000000#32
    ExactFor b a (single 0x40A00000#32) ∧ b.units + a.units = (single 0x40A00000#32).units ∧
    ExactFor b a (single 0x3F800000#32) ∧ b.units - a.units = (single 0x3F800000#32).units ∧
    ExactFor b a (single 0x40C00000#32) ∧ b.units * a.units = (single 0x40C00000#32).units * fpOne ∧
    ExactFor b a (single 0x3FC00000#32) ∧ a.units ≠ 0 ∧ b.units * fpOne = (single 0x3FC00000#32).units * a.units ∧
    a.dbl = b.dbl ∧ (single 0x40A00000#32).dbl = a.dbl := by decide +kernel

/-- Of 4: 8, 2, 2^34, 2^-30, its root 2, and the double; of the least double: twice it; 3 and 2 as doubles give the single 5. -/
theorem witness_ArithmeticDeliversTheRoundedResult_monadic : let a := single 0x40800000#32
    ExactFor a a (single 0x41000000#32) ∧ a.units * 2 = (single 0x41000000#32).units ∧
    a.units = (single 0x40000000#32).units * 2 ∧ a.units * 2 ^ 32 = (single 0x50800000#32).units ∧
    a.units = (single 0x30800000#32).units * 2 ^ 32 ∧ 0 < (single 0x40000000#32).units ∧
    (single 0x40000000#32).units * (single 0x40000000#32).units = a.units * fpOne ∧
    ExactFor a a (double 0x4010000000000000#64) ∧ a.units = (double 0x4010000000000000#64).units ∧
    ExactFor a (double 1#64) (double 2#64) ∧ (double 1#64).units * 2 = (double 2#64).units ∧
    ExactFor (double 0x4008000000000000#64) (double 0x4000000000000000#64) (single 0x40A00000#32) ∧
    (double 0x4008000000000000#64).units + (double 0x4000000000000000#64).units = (single 0x40A00000#32).units := by
  decide +kernel

/-- 1 and 3, whose quotient is not exact; the greatest single twice, whose sum, product and double overflow; the least one,
whose half underflows; each as A and B, in every mode. -/
theorem witness_ArithmeticDeliversTheRoundedResult_inexact : Each [(0x3F800000#32, 0x40400000#32), (0x7F7FFFFF#32, 0x7F7FFFFF#32),
      (0xFF7FFFFF#32, 0x40000000#32), (1#32, 0x00000003#32)] fun x => Each [0#2, 1#2, 2#2, 3#2] fun m =>
    let s := fpSt (single x.1) (single x.2) m
    let a := s.r.fpA
    let b := s.r.fpB
    s.calm ∧ s.NoFpTrap ∧ a.special = false ∧ b.special = false ∧ a.dbl = b.dbl ∧ b.units + a.units ≠ 0 ∧
    b.units * a.units ≠ 0 ∧ 0 < a.units := by decide +kernel

/-- 1 - 3 and, of doubles, 1 + 2^-52, which is no single. -/
theorem witness_ArithmeticDeliversTheRoundedResult_double : let a := double 0x3FF0000000000000#64
    let b := double 0x3CB0000000000000#64
    let s := fpSt b a 2#2
    s.calm ∧ s.NoFpTrap ∧ a.special = false ∧ b.special = false ∧ a.dbl = true ∧ b.dbl = true ∧ b.units + a.units ≠ 0 ∧
    (single 0x3F800000#32).units - (single 0x40400000#32).units ≠ 0 := by decide +kernel

/-- Dividend, divisor and quotient: 5 by 3, 7 by 2 and 5 by 2 (ties), −1 by 3 (no multiple), 2^24 − 1 and 2^24 by 1, the most that
`fprange` delivers and the least that it does not; of doubles, 5 by 3. -/
theorem witness_ArithmeticDeliversTheRoundedResult_remainder : Each [(single 0x40A00000#32, single 0x40400000#32, (2 : Int)),
      (single 0x40E00000#32, single 0x40000000#32, 4), (single 0x40A00000#32, single 0x40000000#32, 2),
      (single 0xBF800000#32, single 0x40400000#32, 0), (single 0x4B7FFFFF#32, single 0x3F800000#32, 16777215),
      (single 0x4B800000#32, single 0x3F800000#32, 16777216),
      (double 0x4014000000000000#64, double 0x4008000000000000#64, 2)] fun x =>
    let s := fpSt x.1 x.2.1 3#2
    let a := s.r.fpA
    let r := s.r.fpB.units - a.units * x.2.2
    s.calm ∧ s.cpuMode = .whole ∧ s.NoFpTrap ∧ a.dbl = s.r.fpB.dbl ∧ s.r.fpB.special = false ∧ a.special = false ∧ a.units ≠ 0 ∧
    2 * r.natAbs ≤ a.units.natAbs ∧ (2 * r.natAbs = a.units.natAbs → x.2.2 % 2 = 0) := by decide +kernel

/-- −0 by −∞ (46_floating_point_ops.md R551). -/
theorem witness_ArithmeticDeliversTheRoundedResult_infinity : let s := fpSt (single 0x80000000#32) (single 0xFF800000#32) 1#2
    s.calm ∧ s.cpuMode = .whole ∧ s.NoFpTrap ∧ s.r.fpA.dbl = s.r.fpB.dbl ∧ s.r.fpB.special = false ∧ s.r.fpA.special = true ∧
    s.r.fpA.nan = false := by decide +kernel

/-- The examples of R551 and R576: 10 by 3, 2^30 by 1; −0 by −∞; 3·7 rounded, and 3·10^9 out of range. -/
theorem test_fp_range : (next .fprange (fpSt (single 0x41200000#32) (single 0x40400000#32) 1#2) (fun t =>
      t.r.fpA == single 0x3F800000#32 && t.r.fpB == single 0x40400000#32 && t.r.status == 0#32) &&
    next .fprange (fpSt (single 0x4E800000#32) (single 0x3F800000#32) 1#2) (fun t =>
      t.r.fpA == single 0x7FC01000#32 && t.r.status == 0x104#32) &&
    next .fprange (fpSt (single 0x80000000#32) (single 0xFF800000#32) 1#2) (fun t =>
      t.r.fpA == single 0x80000000#32 && t.r.fpB == single 0#32 && t.r.status == 4#32) &&
    fpGives .fprtoi32 1#2 0#32 0x406CCCCD#32 0x40800000#32 0x10000#32 &&
    fpGives .fprtoi32 1#2 0#32 0x4F32D05E#32 0x4F32D05E#32 0x104#32) = true := by decide +kernel

/-- One third in the four modes (45_floating_point.md R514): the neighbours #3EAAAAAA and #3EAAAAAB, inexact. -/
theorem test_one_third : Each [(0#2, 0x3EAAAAAA#64), (1#2, 0x3EAAAAAB#64), (2#2, 0x3EAAAAAB#64), (3#2, 0x3EAAAAAA#64)] fun x =>
    next .fpdiv (fpSt (single 0x3F800000#32) (single 0x40400000#32) x.1) (fun t =>
      t.r.fpA == ⟨false, x.2⟩ && t.r.status.getLsbD 16 && t.r.round == 1#2) = true := by decide +kernel

/-- Two equal numbers, and a NaN. -/
theorem witness_FpComparisons : ∀ s ∈ [fpSt (single 0#32) (single 0x80000000#32) 0#2, fpSt (single 0x7FC00000#32) (single 1#32) 0#2],
    s.calm ∧ s.NoFpTrap ∧ s.r.fpA.dbl = s.r.fpB.dbl ∧
    ((s.r.fpA.special = false ∧ s.r.fpB.special = false) ∨ s.r.fpB.nan = true) := by decide +kernel

/-- `fpSt` with a trap enabled. -/
def fpTrapSt (b a : FpEntry) (status : Word) : State := regs (fpSt b a 0#2) fun r => { r with status := status }

/-- No trap enabled: the sum of two infinities, the root of −1, a quiet NaN, a division by 0. -/
theorem witness_FpExceptions_untrapped : ∀ s ∈ [fpSt (single 0x7F800000#32) (single 0xFF800000#32) 0#2,
      fpSt (single 0#32) (single 0xBF800000#32) 0#2, fpSt (single 0x3F800000#32) (single 0x7FC00001#32) 0#2,
      fpSt (single 0x3F800000#32) (single 0#32) 0#2], s.calm ∧ s.cpuMode = .whole ∧ s.NoFpTrap ∧ s.r.fpA.dbl = s.r.fpB.dbl := by
  decide +kernel

theorem witness_FpExceptions_operands : single 0x7F800000#32 = ⟨false, 0x7F800000#64⟩ ∧ (single 0x7FC00001#32).nan = true ∧
    (single 0x3F800000#32).nan = false ∧ (single 0x7FC00001#32).bits.getLsbD 22 = true ∧ (single 0#32).special = false ∧
    (single 0#32).units = 0 ∧ (single 0x3F800000#32).special = false ∧ (single 0x3F800000#32).units ≠ 0 := by decide +kernel

/-- One trap enabled, and an operand for each: error, invalid, division by zero, overflow, underflow, inexact. -/
theorem witness_FpExceptions_trapped : (∀ s ∈ [fpTrapSt (single 0#32) (single 0x7F800000#32) 0x8#32,
      fpTrapSt (single 0#32) (single 0xBF800000#32) 0x200#32, fpTrapSt (single 0x3F800000#32) (single 0#32) 0x800#32,
      fpTrapSt (single 0#32) (single 0x7F7FFFFF#32) 0x2000#32, fpTrapSt (single 0#32) (single 1#32) 0x8000#32,
      fpTrapSt (single 0#32) (single 0x3F000000#32) 0x20000#32], s.calm ∧ s.cpuMode = .whole ∧ s.r.fpA.dbl = s.r.fpB.dbl) ∧
    (single 0x7F800000#32).special = true ∧ (single 0xBF800000#32).units < 0 ∧ (single 0x7F7FFFFF#32).exponent = 254 ∧
    ((single 1#32).exponent = 0 ∧ (single 1#32).fraction ≠ 0) ∧ (single 0x3F000000#32).special = false ∧
    (single 0x3F000000#32).units % fpOne ≠ 0 := by decide +kernel

/-! ### Virtual links, configuration, cache -/

/-- Each form of the header instructions: the operands, the channel's number and direction. -/
theorem witness_VirtualLinkHeaders : ∀ s ∈ [linked 0x80000040#32 0x80002003#32 0x80003000#32 headed,
      linked 0x80000042#32 3#32 0xFFFE#32 headed, linked 0x80000040#32 2#32 0xFFFFFFFF#32 headed,
      linked 0x80000040#32 0xFFFFFFFF#32 0#32 headed, linked 0x80000040#32 1#32 0x80003000#32 headed],
    s.plain ∧ s.mem.wf = true ∧ s.WordOperand s.r.areg ∧ s.kind (s.r.areg &&& 0xFFFFFFFC#32) = .virt 0 false ∧
    s.vcp.mode ≠ .resetting ∧ s.WordOperand s.r.breg ∧ (s.vlcb 0).held = none ∧ (s.vlcb 0).inp.busy = false ∧
    (s.vlcb 0).out.busy = false ∧ (s.vlcb 0).inp.active = false ∧ (s.vlcb 0).out.active = false ∧ (s.vlcb 0).null = false ∧
    (s.vlcb 0).hlen.toNat = 1 ∧ ∀ j : Nat, j < 3 → s.Plain (0x80003000#32 + BitVec.ofNat 32 j) := by decide +kernel

/-- R656: the record of a packet in the old buffer stays. -/
theorem test_swapbfr_holding : next .swapbfr (linked 0x80000040#32 0x80002003#32 5#32
    { headed with held := some (2, true), buffer := 0x80003100#32 }) (fun t => t.r.areg == 0x80003100#32 && t.r.breg == 5#32 &&
      (t.vlcb 0).buffer == 0x80002000#32 && (t.vlcb 0).held == some (2, true)) = true := by decide +kernel

/-- A header of four bytes, in the header area at #80003400. -/
theorem witness_VirtualLinkHeaders_long :
    let s := { linked 0x80000040#32 4#32 0x80003000#32 { headed with hlen := 4#8, offset := 0#32 } with
      conf := { (plainSt 0#32 0#32 0#32 []).conf with hdrAreaBase := 0x80003400#32 } }
    s.plain ∧ s.mem.wf = true ∧ s.WordOperand s.r.areg ∧ s.kind (s.r.areg &&& 0xFFFFFFFC#32) = .virt 0 false ∧
    s.vcp.mode ≠ .resetting ∧ 3 < s.r.breg.toNat ∧ s.r.breg.toNat ≤ 255 ∧ (s.vlcb 0).offset ≠ 0xFFFFFFFF#32 ∧
    (s.vlcb 0).null = false ∧ s.r.breg.toNat = (s.vlcb 0).hlen.toNat ∧
    ∀ j : Nat, j < 4 → s.Plain (s.r.creg + BitVec.ofNat 32 j) ∧
      s.Plain (s.conf.hdrAreaBase + 4#32 * (s.vlcb 0).offset + BitVec.ofNat 32 j) := by decide +kernel

/-- An internal channel, an output channel, an event channel; a length recorded. -/
theorem witness_SingleChannels : ∀ x ∈ [(0x80001200#32, ChanKind.internal), (0x80000044#32, .virt 0 true), (0x80000020#32, .event 0 false)],
    let s := regs (linked x.1 0#32 3#32 headed) fun r => { r with areg := x.1 + 3#32 }
    let c := s.r.areg &&& 0xFFFFFFFC#32
    s.plain ∧ s.mem.wf = true ∧ s.Plain (s.w - 16#32) ∧ s.wordAt (s.w - 16#32) ≠ 0xFFFFFFFF#32 ∧ s.WordOperand s.r.areg ∧
    s.kind c = x.2 ∧ s.vcp.mode ≠ .resetting ∧ (s.vlcb 0).out.state = .empty ∧ (s.vlcb 0).out.resource = false ∧
    (s.vlcb 0).out.pendingSchedule = none ∧ (s.vlcb 0).out.stopping = false ∧ (s.vlcb 0).out.stoppers = [] ∧ (x.2 = .internal → s.Plain c) ∧
    (x.2 = .event 0 false → s.Backed (c ^^^ 4#32)) ∧ s.r.breg = 0#32 := by decide +kernel

/-- `headed` with an output in progress, of which `done` bytes have been sent. -/
def outputting (active : Bool) (len done : Word) (sent : Bool) : Vlcb :=
  { headed with out := { headed.out with
      active := active, state := .comm 0x80002001#32 0x80003000#32 len false done sent } }

/-- An output of which a packet awaits its acknowledge. -/
theorem witness_SingleChannels_stop : let s := linked 0x80000044#32 1#32 3#32 (outputting true 4#32 4#32 true)
    let s := { s with vcp := { s.vcp with mode := .running } }
    s.plain ∧ s.mem.wf = true ∧ s.WordOperand s.r.areg ∧ s.kind (s.r.areg &&& 0xFFFFFFFC#32) = .virt 0 true ∧
    s.vcp.mode = .running ∧ (s.vlcb 0).out.state = .comm 0x80002001#32 0x80003000#32 4#32 false 4#32 true ∧
    (s.vlcb 0).out.stopping = false ∧ s.CanIdle ∧ s.ctl.gross = .running := by decide +kernel

/-- Activation of an output channel; a communication in progress. -/
theorem witness_SingleChannels_mode :
    let s := linked 0x80000044#32 1#32 3#32 headed
    let u := linked 0x80000044#32 1#32 3#32 (outputting false 4#32 0#32 false)
    s.plain ∧ s.mem.wf = true ∧ s.r.breg = 1#32 ∧ (s.vlcb 0).null = false ∧ s.vcp.mode ≠ .resetting ∧ s.vcp.mode ≠ .stopping ∧
    (s.vlcb 0).out.pendingPacket = none ∧ (s.vlcb 0).out.pendingSchedule = none ∧ (s.vlcb 0).out.stoppers = [] ∧ s.kind s.r.areg = .virt 0 true ∧
    u.plain ∧ u.kind u.r.areg = .virt 0 true ∧ u.vcp.mode ≠ .resetting ∧ (u.vlcb 0).out.resource = false ∧
    (u.vlcb 0).out.stopping = false ∧ (u.vlcb 0).out.state = .comm 0x80002001#32 0x80003000#32 4#32 false 0#32 false := by decide +kernel

/-- `linked` with the VCP running, link 2 started, headers up to 9, and this to happen. -/
def serving (a b c : Word) (v : Vlcb) (q : LinkQueues) (es : List Event) : State :=
  let s := linked a b c v
  { s with
    vcp := { s.vcp with mode := .running, links := s.vcp.links.set 2 q }
    links := s.links.set 2 { Link.reset with started := true, tokenReceived := true, mode := 8#5, maxHeader := 9#16, hdrOffset := 5#16 }
    agenda := es }

/-- An input and an output channel of an idle link, deactivated and activated. -/
theorem witness_ExternalCommunication : Each [(0x80000040#32, false, false), (0x80000044#32, true, false),
      (0x80000044#32, true, true)] fun x =>
    let v := { headed with out := { headed.out with active := x.2.2 } }
    let s := serving 4#32 x.1 0x80003000#32 v LinkQueues.empty []
    let e := if x.2.1 then (s.vlcb 0).out else (s.vlcb 0).inp
    s.plain ∧ s.mem.wf = true ∧ s.WordOperand s.r.breg ∧ s.kind (s.r.breg &&& 0xFFFFFFFC#32) = .virt 0 x.2.1 ∧
    s.vcp.mode ≠ .resetting ∧ s.vcp.mode ≠ .stopping ∧ s.ctl.gross = .running ∧
    (s.links.get (s.vlcb 0).link.toNat).vcpMode.getLsbD 0 = false ∧ e.state = .empty ∧ e.resource = false ∧
    e.pendingSchedule = none ∧ e.stopping = false ∧ s.CanIdle ∧ s.Plain s.w ∧ s.Plain (s.w - 16#32) ∧ s.r.areg ≠ 0xFFFFFFFF#32 := by decide +kernel

/-- `plainSt` with link 2 in byte-stream mode and started, the VCP running, and this to happen. -/
def streaming (a b c : Word) (cells : List (Word × Word)) (q : LinkQueues) (es : List Event) : State :=
  let s := plainSt a b c cells
  { s with
    vcp := { s.vcp with mode := .running, links := s.vcp.links.set 2 q }
    links := s.links.set 2 { Link.reset with started := true, vcpMode := 1#3 }
    agenda := es }

/-- The output and the input channel of link 2, the second idle, and enabled by this process. -/
theorem witness_ExternalCommunication_byteStream : Each [(0x80000008#32, 2, 0x80000000#32), (0x80000018#32, 6, 0x80000000#32),
      (0x80000018#32, 6, 0x80001001#32)] fun x =>
    let s := streaming 4#32 x.1 0x80003000#32 [(x.1, x.2.2)] LinkQueues.empty []
    let q := s.vcp.links.get (x.2.1 % 4)
    s.plain ∧ s.mem.wf = true ∧ s.WordOperand s.r.breg ∧ s.kind (s.r.breg &&& 0xFFFFFFFC#32) = .byteStream x.2.1 ∧
    (s.links.get (x.2.1 % 4)).vcpMode.getLsbD 0 = true ∧ (s.links.get (x.2.1 % 4)).vcpMode.getLsbD 2 = false ∧
    s.vcp.mode ≠ .resetting ∧ q.byteOut = none ∧ q.byteIn = none ∧
    (s.wordAt x.1 = 0x80000000#32 ∨ s.wordAt x.1 = s.r.wdesc) ∧ s.CanIdle ∧ s.Plain s.w ∧ s.Plain (s.w - 8#32) ∧
    s.Plain (s.w - 16#32) ∧ s.Backed (s.r.breg &&& 0xFFFFFFFC#32) ∧ s.r.areg ≠ 0#32 ∧ s.r.areg ≠ 0xFFFFFFFF#32 := by
  decide +kernel

/-- The process #80002001 inputs on event channel 3 as its pin rises. -/
def rising : State :=
  { plainSt 0#32 0#32 0#32 [(0x80000038#32, 0x80002001#32), (0x8000003C#32, 0x80000000#32)] with agenda := [.eventPin 3 true] }

/-- The event has come before. -/
def risen : State := { rising with
  agenda := [.eventServe 3], events := rising.events.set 3 { (rising.events.get 3) with inLevel := true, ready := true } }

theorem witness_ExternalCommunication_event : Each [(rising, true), (risen, false)] fun x =>
    let s := x.1
    let p := s.events.get 3
    s.agenda = [if x.2 then .eventPin 3 true else .eventServe 3] ∧
    s.inChain = false ∧ s.cache.waiting = false ∧ s.trouble = none ∧ s.mem.wf = true ∧ s.holding = false ∧
    s.kind 0x80000038#32 = .event 3 false ∧ (if x.2 then p.inLevel = false else p.ready = true) ∧ p.enabled = false ∧ s.wordAt 0x8000003C#32 = 0x80000000#32 ∧
    s.wordAt 0x80000038#32 = 0x80002001#32 ∧ s.Backed 0x80000038#32 ∧ s.Backed 0x8000003C#32 ∧ s.CanAppend true ∧ 0x80000038#32 ∉ s.appendPlace true := by
  decide +kernel

/-- What every clause about virtual link 0 on link 2 asks of a state. -/
abbrev Serves (s : State) (v : Vlcb) : Prop := s.inChain = false ∧ s.cache.waiting = false ∧ s.trouble = none ∧ s.mem.wf = true ∧
  s.ctl.gross = .running ∧ s.vcp.mode = .running ∧ s.vcp.vlcbs.lookup 0 = some v ∧ v.link.toNat = 2 ∧
  (s.links.get 2).vcpMode.getLsbD 0 = false ∧ (s.links.get 2).vcpMode.getLsbD 2 = false

/-- The first and the last packet of an output of 33 bytes. -/
theorem witness_VirtualChannelProcessor_send : Each [0#32, 32#32] fun done =>
    let v := outputting true 33#32 done false
    let s := serving 0#32 0#32 0#32 v { LinkQueues.empty with loData := [0] } [.vcpSend 2]
    Serves s v ∧ (s.links.get 2).started = true ∧ (s.links.get 2).resetOutputDone = false ∧ v.out.stopping = false ∧
    (s.vcp.links.get 2).next = some (0, false, true, { LinkQueues.empty with loLastAck := false }) ∧ v.out.active = true ∧
    v.hlen.toNat ≤ 3 ∧ ∀ j : Nat, j < 33 → s.legal false false (0x80003000#32 + done + BitVec.ofNat 32 j) = true := by
  decide +kernel

/-- The acknowledge of the first and of the last packet. -/
theorem witness_VirtualChannelProcessor_ack : Each [32#32, 33#32] fun done =>
    let v := outputting true 33#32 done true
    let s := serving 0#32 0#32 0#32 v { LinkQueues.empty with arrived := [⟨[5#8], [], false⟩] } [.vcpAccept 2]
    Serves s v ∧ (s.vcp.links.get 2).arrived = [⟨[5#8], [], false⟩] ∧ (s.links.get 2).minHeader.toNat ≤ (5#8).toNat ∧
    (5#8).toNat ≤ (s.links.get 2).maxHeader.toNat ∧ (s.links.get 2).hdrOffset.toNat + 0 = (5#8).toNat ∧ s.CanAppend true ∧
    v.out.active = true ∧ v.out.stopping = false ∧ s.Plain 0x80002000#32 ∧ s.Plain (0x80002000#32 - 16#32) ∧
    0x80002000#32 ∉ s.appendPlace true ∧ 0x80002000#32 - 16#32 ∉ s.appendPlace true := by decide +kernel

/-- An empty message and one of the length asked for. -/
theorem witness_VirtualChannelProcessor_data : Each [[], [1#8, 2#8]] fun data =>
    let v := { headed with inp := { headed.inp with
        active := true, state := .comm 0x80002001#32 0x80003000#32 2#32 false 0#32 false } }
    let s := serving 0#32 0#32 0#32 v { LinkQueues.empty with arrived := [⟨[5#8], data, true⟩] } [.vcpAccept 2]
    Serves s v ∧ (s.vcp.links.get 2).arrived = [⟨[5#8], data, true⟩] ∧ s.CanAppend true ∧ data.length ≤ 32 ∧
    v.inp.active = true ∧ v.inp.stopping = false ∧ v.held = none ∧ (0#32 : Word).toNat + data.length ≤ (2#32 : Word).toNat ∧
    ∀ j : Nat, j < data.length → s.Plain (0x80003000#32 + 0#32 + BitVec.ofNat 32 j) ∧
      (0x80003000#32 + 0#32 + BitVec.ofNat 32 j) &&& 0xFFFFFFFC#32 ∉ s.appendPlace true := by decide +kernel

/-- Of a variable-length input of at most two bytes, a message of two and one of three. -/
theorem witness_VirtualChannelProcessor_length : Each [[1#8, 2#8], [1#8, 2#8, 3#8]] fun data =>
    let v := { headed with inp := { headed.inp with
        active := true, state := .comm 0x80002001#32 0x80003000#32 2#32 true 0#32 false } }
    let s := serving 0#32 0#32 0#32 v { LinkQueues.empty with arrived := [⟨[5#8], data, true⟩] } [.vcpAccept 2]
    Serves s v ∧ (s.vcp.links.get 2).arrived = [⟨[5#8], data, true⟩] ∧ s.CanAppend true ∧ data.length ≤ 32 ∧
    v.inp.active = true ∧ v.inp.stopping = false ∧ v.held = none ∧ s.Plain (0x80002000#32 - 16#32) ∧
    0x80002000#32 - 16#32 ∉ s.appendPlace true ∧
    ∀ j : Nat, j < 2 → s.Plain (0x80003000#32 + BitVec.ofNat 32 j) ∧
      (0x80003000#32 + BitVec.ofNat 32 j) &&& 0xFFFFFFFC#32 ∉ [0x80002000#32 - 16#32] ++ s.appendPlace true := by decide +kernel

/-- What every clause about a link in byte-stream mode asks of a state. -/
abbrev Streams (s : State) : Prop := s.inChain = false ∧ s.cache.waiting = false ∧ s.trouble = none ∧ s.mem.wf = true ∧
  s.ctl.gross = .running ∧ s.vcp.mode = .running ∧ (s.links.get 2).vcpMode.getLsbD 0 = true ∧ s.CanAppend true ∧
  s.Backed 0x80000008#32 ∧ s.Backed 0x80000018#32 ∧ 0x80000008#32 ∉ s.appendPlace true ∧ 0x80000018#32 ∉ s.appendPlace true

/-- The process #80002001 transfers five bytes at #80003000, `done` of them already. -/
abbrev five (done : Word) (sent : Bool) : ByteComm := ⟨0x80002001#32, 0x80003000#32, 5#32, done, sent⟩

/-- The packet of an output; an acknowledge to be sent; the announcement of an input. -/
theorem witness_VirtualChannelProcessor_byteSend :
    Each [({ LinkQueues.empty with byteOut := some (five 0#32 false) }, Event.byteSend 2),
        ({ LinkQueues.empty with byteAcks := 1 }, .byteReply 2),
        ({ LinkQueues.empty with byteIn := some (five 0#32 false) }, .byteReply 2)] fun x =>
      let s := streaming 0#32 0#32 0#32 [] x.1 [x.2]
      Streams s ∧ (s.links.get 2).started = true ∧ (s.links.get 2).resetOutputDone = false ∧
      (five 0#32 false).done ≠ (five 0#32 false).len ∧
      ∀ j : Nat, j < 5 → s.legal false false (0x80003000#32 + 0#32 + BitVec.ofNat 32 j) = true := by decide +kernel

/-- An acknowledge, of a packet that is the last and of another, in front and behind the notice of an unsolicited byte. -/
def acknowledged (done : Word) (before : List Packet) : State :=
  streaming 0#32 0#32 0#32 [(0x80000008#32, 0x80002001#32), (0x80000018#32, 0x80000000#32)]
    { LinkQueues.empty with byteOut := some (five done true), arrived := before ++ [⟨[0#8], [], false⟩] } [.vcpAccept 2]

theorem witness_VirtualChannelProcessor_byteAck : Each [3#32, 5#32] fun done => Each [[], [⟨[0#8], [], true⟩]] fun before =>
    let s := acknowledged done before
    Streams s ∧ (s.vcp.links.get 2).byteOut = some (five done true) ∧ (s.vcp.links.get 2).byteIn = none ∧
    (∀ z ∈ before, z.data ≠ [] ∨ z.last = true) ∧ s.wordAt 0x80000018#32 = 0x80000000#32 ∧ s.Plain 0x80002000#32 ∧
    0x80002000#32 ∉ s.appendPlace true ∧ 0x80000008#32 ≠ (0x80002000#32 : Word) := by decide +kernel

/-- The acknowledge behind the notice ends the output, and the notice stays (43_channels_alt.md R387). -/
theorem test_ack_behind_notice : (match step (acknowledged 5#32 [⟨[0#8], [], true⟩]) with
    | .next t => t.lo.fptr == 0x80002000#32 && t.wordAt 0x80000008#32 == 0x80000000#32 &&
        (t.vcp.links.get 2).arrived == [⟨[0#8], [], true⟩] && (t.vcp.links.get 2).byteOut == none
    | _ => false) = true := by decide +kernel

/-- The notice of an unsolicited byte meets an alternative that enables, and one that waits. -/
theorem witness_VirtualChannelProcessor_byteAlternative : Each [0x80000001#32, 0x80000002#32] fun state =>
    let s := streaming 0#32 0#32 0#32 [(0x80000018#32, 0x80002001#32), (0x80001FF0#32, state)]
      { LinkQueues.empty with arrived := [⟨[0#8], [], true⟩] } [.vcpAccept 2]
    Streams s ∧ (s.vcp.links.get 2).byteIn = none ∧ s.wordAt 0x80000018#32 = 0x80002001#32 ∧ s.Plain (0x80002000#32 - 16#32) ∧
    s.wordAt (0x80002000#32 - 16#32) = state ∧ 0x80002000#32 - 16#32 ∉ s.appendPlace true := by decide +kernel

/-- Data for a process that inputs: not the last, the last of a shorter message, and all it has asked for; and the notice. -/
theorem witness_VirtualChannelProcessor_byteData : Each [(⟨[0#8], [1#8, 2#8], false⟩ : Packet), ⟨[0#8], [1#8, 2#8], true⟩,
      ⟨[0#8], [1#8, 2#8, 3#8], false⟩, ⟨[0#8], [], true⟩] fun a =>
    let s := streaming 0#32 0#32 0#32 [(0x80000018#32, 0x80002001#32)]
      { LinkQueues.empty with arrived := [a], byteIn := some (five 2#32 true) } [.vcpAccept 2]
    Streams s ∧ (s.vcp.links.get 2).arrived = [a] ∧ (s.vcp.links.get 2).byteIn = some (five 2#32 true) ∧
    (a.data ≠ [] ∨ a.last = true) ∧ (2#32 : Word).toNat + a.data.length ≤ (5#32 : Word).toNat ∧
    ∀ j : Nat, j < a.data.length → s.Plain (0x80003000#32 + 2#32 + BitVec.ofNat 32 j) ∧
      (0x80003000#32 + 2#32 + BitVec.ofNat 32 j) &&& 0xFFFFFFFC#32 ≠ 0x80000018#32 ∧
      (0x80003000#32 + 2#32 + BitVec.ofNat 32 j) &&& 0xFFFFFFFC#32 ∉ s.appendPlace true := by decide +kernel

/-- An error of link 2 that is not localized, the VCP running and resetting; a header above and one below the range, of a link
that localizes errors and of one that does not. -/
theorem witness_VirtualChannelProcessor_discards :
    (Each [VcpMode.running, .resetting] fun m =>
      let s := serving 0#32 0#32 0#32 headed LinkQueues.empty [.linkError 2 false]
      let s := { s with
        vcp := { s.vcp with mode := m }, links := s.links.set 2 { (s.links.get 2) with mode := 0#5 } }
      s.inChain = false ∧ s.cache.waiting = false ∧ s.trouble = none ∧ s.mem.wf = true ∧ s.ctl.gross = .running ∧
      s.conf.standAloneMode = false ∧ (s.links.get 2).started = true ∧ (s.links.get 2).tokenReceived = true ∧
      (s.links.get 2).mode.getLsbD 3 = false) = true ∧
    (Each [(3#8, 0#3), (10#8, 0#3), (10#8, 2#3)] fun x =>
      let s := serving 0#32 0#32 0#32 headed { LinkQueues.empty with arrived := [⟨[x.1], [], true⟩] } [.vcpAccept 2]
      let s := { s with links := s.links.set 2 { (s.links.get 2) with minHeader := 4#16, vcpMode := x.2 } }
      Serves s headed ∧ s.conf.standAloneMode = false ∧ (s.vcp.links.get 2).arrived = [⟨[x.1], [], true⟩] ∧
      (x.1.toNat < (s.links.get 2).minHeader.toNat ∨ (s.links.get 2).maxHeader.toNat < x.1.toNat) ∧
      (s.links.get 2).vcpMode.getLsbD 1 = x.2.getLsbD 1) = true := ⟨by decide +kernel, by decide +kernel⟩

/-- A link error that is not localized makes the VCP discard (47_vcp_config.md R643). -/
theorem test_link_error_discards : (let s := serving 0#32 0#32 0#32 headed LinkQueues.empty [.linkError 2 true]
    match step { s with links := s.links.set 2 { (s.links.get 2) with mode := 0#5 } } with
    | .next t => t.vcp.mode == .discarding && t.ctl.gross == .error && t.conf.errorCode == 0x82#8
    | _ => false) = true := by decide +kernel

/-- The last packet of a message of two bytes held in the buffer at `a`. -/
def heldAt (a : Word) : Vlcb := { headed with
  buffer := a, held := some (2, true)
  inp := { headed.inp with active := true, state := .comm 0x80002001#32 0x80003000#32 2#32 false 0#32 false } }

/-- The buffer is at #80003100, or at #80003200 where the null buffer is the first (its address is a free value). -/
theorem witness_VirtualChannelProcessor_serve :
    let b := if Config.nullBuffer = 0x80003100#32 then 0x80003200#32 else 0x80003100#32
    b ≠ Config.nullBuffer ∧ Each [b] fun a =>
      let s := serving 0#32 0#32 0#32 (heldAt a) LinkQueues.empty [.vcpServe 0]
      Serves s (heldAt a) ∧ (heldAt a).inp.active = true ∧ s.CanAppend true ∧ (0#32 : Word).toNat + 2 ≤ (2#32 : Word).toNat ∧
      ∀ j : Nat, j < 2 → s.Plain (a + BitVec.ofNat 32 j) ∧ s.Plain (0x80003000#32 + 0#32 + BitVec.ofNat 32 j) ∧
        (0x80003000#32 + 0#32 + BitVec.ofNat 32 j) &&& 0xFFFFFFFC#32 ∉ s.appendPlace true := by
  by_cases h : Config.nullBuffer = 0x80003100#32
  · simp only [if_pos h]
    exact ⟨by rw [h]; decide, by decide +kernel⟩
  · simp only [if_neg h]
    exact ⟨Ne.symm h, by decide +kernel⟩

theorem witness_VirtualChannelProcessor_linkError : let s := serving 0#32 0#32 0#32 headed LinkQueues.empty [.linkError 2 false]
    s.inChain = false ∧ s.cache.waiting = false ∧ s.trouble = none ∧ s.mem.wf = true ∧ s.ctl.gross = .running ∧
    (s.links.get 2).started = true ∧ (s.links.get 2).tokenReceived = true ∧ (s.links.get 2).mode.getLsbD 3 = true := by
  decide +kernel

/-- What every clause about a command asks of a state. -/
abbrev Commanded (s : State) : Prop := s.inChain = false ∧ s.cache.waiting = false ∧ s.trouble = none ∧ s.mem.wf = true ∧
  s.ctl.label = some 1#16 ∧ s.ctl.returnHeader = some 2#16

theorem witness_ControlCommands_command :
    let s := { commandSt .ready .identify with agenda := [.command 1#16 (.peek 0x80001000#32)] }
    let s := { s with ctl := { s.ctl with inProgress := none } }
    Commanded s ∧ s.agenda = [.command 1#16 (.peek 0x80001000#32)] ∧ s.ctl.inProgress = none ∧
    Command.peek 0x80001000#32 ≠ .errorHandshake := by decide +kernel

/-- Each command in a gross state that admits it. -/
theorem witness_ControlCommands : ∀ x ∈ [(Gross.ready, Command.identify), (.ready, .peek 0x80001000#32),
      (.booting, .poke 0x80001000#32 5#32), (.ready, .cpeek 0x0111#16), (.ready, .boot 7#32 0x80001000#32), (.running, .stop),
      (.ready, .run 0x80001002#32 0x80000140#32), (.initial, .start 3#16), (.error, .recoverError), (.error, .reset 0#8),
      (.running, .reset 1#8), (.running, .reset 2#8), (.stopping, .reset 3#8), (.error, .reset 4#8), (.ready, .cpoke 0xFE02#16 2#32),
      (.booting, .cpoke 0x1001#16 0#32), (.ready, .cpoke 0x0300#16 0#32), (.booting, .reboot),
      (.booting, .bootData 1#32 2#32 3#32 4#32)],
    let s := commandSt x.1 x.2
    Commanded s ∧ s.agenda = [.handshake] ∧ s.ctl.inProgress = some x.2 ∧ x.2.validIn s.ctl.gross = true := by decide +kernel

theorem witness_ControlCommands_operands : let s := commandSt .ready .identify
    s.ctl.gross ≠ .initial ∧ s.legal false false 0x80001000#32 = true ∧ s.legal false false 0x7E000000#32 = false ∧
    s.legal false true 0x7E000000#32 = false ∧ s.Plain 0x80001000#32 ∧
    s.confRead ((0x0111#16 : Half).setWidth 32) = some (0#32, 0xFFFFFFFF#32) ∧
    (∀ j : Nat, j < 7 → s.Plain ((0x80001002#32 &&& 0xFFFFFFFC#32) + BitVec.ofNat 32 (4 * j))) ∧
    (Command.run 0#32 0#32).validIn .running = false ∧
    (let u := commandSt .running .stop
     { u with vcp := { u.vcp with mode := .running } }.vcp.mode = .running) ∧ s.clink1.startBit = false := by decide +kernel

/-- The last whole packet of a BootData sequence, and one before it. -/
theorem witness_ControlCommands_bootData : Each [16#32, 20#32] fun left =>
    let u := commandSt .booting (.bootData 1#32 2#32 3#32 4#32)
    let s := { u with ctl := { u.ctl with bootPtr := 0x80001000#32, bootRemaining := left } }
    Commanded s ∧ s.agenda = [.handshake] ∧ s.ctl.gross = .booting ∧ 16 ≤ s.ctl.bootRemaining.toNat ∧
    s.ctl.bootPtr &&& 3#32 = 0#32 ∧ ∀ j : Nat, j < 4 → s.Plain (s.ctl.bootPtr + BitVec.ofNat 32 (4 * j)) := by decide +kernel

/-- The ROM words name a workspace in RAM. -/
theorem witness_ControlCommands_reboot : let u := commandSt .ready .reboot
    let s := { u with mem := u.mem.writeWord 0x7FFFFFFC#32 0x80001000#32 }
    Commanded s ∧ s.legal false false 0x7FFFFFF8#32 = true ∧ s.legal false false 0x7FFFFFFC#32 = true ∧
    ∀ j : Nat, j < 7 → s.Plain ((s.wordAt 0x7FFFFFFC#32 &&& 0xFFFFFFFC#32) + BitVec.ofNat 32 (4 * j)) := by decide +kernel

theorem witness_ControlCommands_errorHandshake : let u := commandSt .error .identify
    let s := { u with
      agenda := [.command 1#16 .errorHandshake], ctl := { u.ctl with errorSent := some 1#8, errors := [1#8], unacked := 1 } }
    Commanded s ∧ s.agenda = [.command 1#16 .errorHandshake] ∧ s.ctl.errorSent = some 1#8 ∧ s.ctl.unacked ≠ 0 := by
  decide +kernel

/-- The first and the last register of each subsystem. -/
theorem witness_ConfigurationRegisters : ∀ s ∈ [plainSt 0x010F#32 1#32 2#32 [], plainSt 0x0115#32 1#32 2#32 [],
      plainSt 0x0202#32 1#32 2#32 [], plainSt 0x0415#32 1#32 2#32 [], plainSt 0x0600#32 1#32 2#32 [], plainSt 0x0805#32 1#32 2#32 [],
      plainSt 0x0901#32 1#32 2#32 [], plainSt 0x1001#32 1#32 2#32 [], plainSt 0x1006#32 1#32 2#32 [], plainSt 0x2001#32 1#32 2#32 [],
      plainSt 0x4110#32 1#32 2#32 [], plainSt 0x8002#32 1#32 2#32 [], plainSt 0x8304#32 2#32 2#32 [], plainSt 0xFE04#32 2#32 2#32 []],
    s.plain ∧ s.confLocked s.r.areg = false := by decide +kernel

/-- The VCP waiting and running; a link not started. -/
theorem witness_ConfigurationRegisters_units : let s := plainSt 0x0804#32 2#32 2#32 []
    s.vcp.mode = .waiting ∧ s.vcp.stopSignalled = false ∧ s.vcp.mode ≠ .resetting ∧ s.vcp.mode ≠ .running ∧
    (s.links.get 3).started = false ∧ (s.links.get 3).startBit = false ∧
    { plainSt 0x0804#32 4#32 2#32 [] with vcp := { Vcp.reset with mode := .running } }.vcp.mode = .running := by decide +kernel

/-- A cache with one line, of block #08001000 (`cachedSt_LinesApart`); lines 512 and 1023. -/
theorem witness_CacheInstructions : Each [0x80010004#32, 512#32, 1023#32] fun a =>
    let s := cachedSt a
    s.calm ∧ s.mem.wf = true ∧ s.r.translate false .write s.r.areg = .ok a ∧ s.r.isP = false ∧
    (a ≠ 0x80010004#32 → s.r.areg.toNat < 1024 ∧ 512 ≤ s.r.areg.toNat) := by decide +kernel

end Sys2Proof.Tests
end

section
/-! The unsigned multiple length instructions of 40_integer.md section 8 (R212, R213, R214, R216, R217): each
leaves a double length number in Breg ++ Areg, and what that number is. -/

namespace Sys2Proof.Machine

/-! ## Words and double words as numbers -/

theorem carryIn_eq_mod_two (c : Word) : carryIn c = c.toNat % 2 := by
  rw [carryIn, BitVec.toNat_and, show (1#32 : Word).toNat = 1 from rfl, Nat.and_one_is_mod]

theorem toNat_boolWord (p : Prop) [Decidable p] : (boolWord (decide p)).toNat = if p then 1 else 0 := by
  by_cases h : p
  · rw [decide_eq_true h, if_pos h]
    rfl
  · rw [decide_eq_false h, if_neg h]
    rfl

/-- The two words of a number below 2^64 are its digits in base 2^32. -/
theorem wrapNat_add_wrapNat_div {n : Nat} (h : n < 2 ^ 64) :
    (wrapNat n).toNat + 2 ^ 32 * (wrapNat (n / 4294967296)).toNat = n := by
  simp only [BitVec.toNat_ofNat]
  omega

theorem toNat_dwordOf (hi lo : Word) : (dwordOf hi lo).toNat = hi.toNat * 2 ^ 32 + lo.toNat := by
  rw [BitVec.toNat_append, ← Nat.shiftLeft_add_eq_or_of_lt lo.isLt, Nat.shiftLeft_eq]

theorem toNat_low_add_toNat_high (d : Dword) :
    (d.setWidth 32).toNat + 2 ^ 32 * ((d >>> 32).setWidth 32).toNat = d.toNat := by
  simp only [BitVec.toNat_setWidth, BitVec.toNat_ushiftRight, Nat.shiftRight_eq_div_pow]
  omega

/-- The model's case of a count of 64 or more (R216) is the exact shift's own value there. -/
theorem toNat_shl_or_zero (d : Dword) (n : Word) :
    (if n < 64#32 then d <<< n.toNat else 0#64).toNat = d.toNat * 2 ^ n.toNat % 2 ^ 64 := by
  split
  · rw [BitVec.toNat_shiftLeft, Nat.shiftLeft_eq]
  · have hn : 64 ≤ n.toNat := by bv_omega
    have hdvd : 2 ^ 64 ∣ d.toNat * 2 ^ n.toNat := Nat.dvd_mul_left_of_dvd (Nat.pow_dvd_pow 2 hn) _
    exact (Nat.mod_eq_zero_of_dvd hdvd).symm

/-- As `toNat_shl_or_zero`, for R217. -/
theorem toNat_shr_or_zero (d : Dword) (n : Word) :
    (if n < 64#32 then d >>> n.toNat else 0#64).toNat = d.toNat / 2 ^ n.toNat := by
  split
  · rw [BitVec.toNat_ushiftRight, Nat.shiftRight_eq_div_pow]
  · have hn : 64 ≤ n.toNat := by bv_omega
    have hlt : d.toNat < 2 ^ n.toNat := Nat.lt_of_lt_of_le d.isLt (Nat.pow_le_pow_right Nat.two_pos hn)
    exact (Nat.div_eq_of_lt hlt).symm

/-! ## What the instructions complete with -/

/-- An instruction that ends with two results completes with them from a calm state. -/
theorem State.calm.twoResults {s : State} {i : Instr} {a b : Word} (h : s.calm)
    (hi : exec i s = s.finish (s.twoResults a b)) : TwoResults s i a b :=
  ⟨s.drawn 0, s.draws + 1, hi.trans (h.finish rfl rfl rfl rfl rfl)⟩

/-- `lsum` (R212): the exact sum, its carry in Breg. -/
theorem lsum_twoResults {s : State} (h : s.calm) : ∃ a b : Word, TwoResults s .lsum a b ∧ b.toNat ≤ 1 ∧
    a.toNat + 2 ^ 32 * b.toNat = s.r.areg.toNat + s.r.breg.toNat + s.r.creg.toNat % 2 := by
  refine ⟨_, _, h.twoResults rfl, ?_⟩
  have ha := s.r.areg.isLt
  have hb := s.r.breg.isLt
  rw [carryIn_eq_mod_two, BitVec.toNat_ofNat, toNat_boolWord]
  split
  · omega
  · omega

/-- `ldiff` (R213): the exact difference, its borrow in Breg. -/
theorem ldiff_twoResults {s : State} (h : s.calm) : ∃ a b : Word, TwoResults s .ldiff a b ∧ b.toNat ≤ 1 ∧
    a.toNat + s.r.areg.toNat + s.r.creg.toNat % 2 = s.r.breg.toNat + 2 ^ 32 * b.toNat := by
  refine ⟨_, _, h.twoResults rfl, ?_⟩
  have ha := s.r.areg.isLt
  have hb := s.r.breg.isLt
  rw [carryIn_eq_mod_two, BitVec.toNat_ofInt, toNat_boolWord]
  split
  · omega
  · omega

/-- `lmul` (R214): the exact product and addend, which fit a double word. -/
theorem lmul_twoResults {s : State} (h : s.calm) : ∃ a b : Word, TwoResults s .lmul a b ∧
    a.toNat + 2 ^ 32 * b.toNat = s.r.breg.toNat * s.r.areg.toNat + s.r.creg.toNat := by
  have hprod : s.r.breg.toNat * s.r.areg.toNat ≤ (2 ^ 32 - 1) * (2 ^ 32 - 1) :=
    Nat.mul_le_mul (Nat.le_pred_of_lt s.r.breg.isLt) (Nat.le_pred_of_lt s.r.areg.isLt)
  have hc := s.r.creg.isLt
  exact ⟨_, _, h.twoResults rfl, wrapNat_add_wrapNat_div (by omega)⟩

/-- `lshl` (R216): Creg ++ Breg shifted left by Areg, modulo 2^64. -/
theorem lshl_twoResults {s : State} (h : s.calm) : ∃ a b : Word, TwoResults s .lshl a b ∧
    a.toNat + 2 ^ 32 * b.toNat = (s.r.creg.toNat * 2 ^ 32 + s.r.breg.toNat) * 2 ^ s.r.areg.toNat % 2 ^ 64 := by
  refine ⟨_, _, h.twoResults rfl, ?_⟩
  rw [toNat_low_add_toNat_high, toNat_shl_or_zero, toNat_dwordOf]

/-- `lshr` (R217): Creg ++ Breg shifted right by Areg. -/
theorem lshr_twoResults {s : State} (h : s.calm) : ∃ a b : Word, TwoResults s .lshr a b ∧
    a.toNat + 2 ^ 32 * b.toNat = (s.r.creg.toNat * 2 ^ 32 + s.r.breg.toNat) / 2 ^ s.r.areg.toNat := by
  refine ⟨_, _, h.twoResults rfl, ?_⟩
  rw [toNat_low_add_toNat_high, toNat_shr_or_zero, toNat_dwordOf]

/-- Settles O12: each instruction completes from a calm state, and its two results read as one number are the exact one
its rule gives. -/
theorem longUnsignedInstructions : Obligations.LongUnsignedInstructions := fun _ h =>
  ⟨lsum_twoResults h, ldiff_twoResults h, lmul_twoResults h, lshl_twoResults h, lshr_twoResults h⟩

end Sys2Proof.Machine
end

section
/-! The flag bits of StatusReg (44_protection_trap.md R470, R471): none of them decides how an instruction ends. -/

namespace Sys2Proof.Machine

/-- As `State.calm.finish`, for an instruction that may change StatusReg in bits that do not decide how an instruction
ends (60_exceptions.md R718). -/
theorem State.calm.finish_of_bits {s t : State} (h : s.calm)
    (hts : bitOf t.r.status sbTimesliceDisabledBit = bitOf s.r.status sbTimesliceDisabledBit)
    (hp : t.r.isP = s.r.isP) (hwp : t.r.watch = s.r.watch) (hw : t.r.wdesc = s.r.wdesc) (hc : t.tsCount = s.tsCount)
    (hi : t.intEnabled = s.intEnabled) (ht : t.trouble = s.trouble) : s.finish t = .next t := by
  obtain ⟨htrouble, hstep, hwatch, hdue⟩ := h
  refine State.finish_of s t hstep (fun htp => ?_) (hwp.trans hwatch) (ht.trans htrouble)
  rw [State.timesliceDue_congr hw hc hts hi]
  exact hdue (hp.symm.trans htp)

/-- Bits merged under a mask leave every bit outside the mask. -/
theorem bitOf_merge_of_not_mask {w v m : Word} {n : Nat} (hn : n < 32) (hm : bitOf m n = false) :
    bitOf ((w &&& ~~~ m) ||| (v &&& m)) n = bitOf w n := by
  unfold bitOf at hm ⊢
  simp only [BitVec.getLsbD_or, BitVec.getLsbD_and, BitVec.getLsbD_not, hn, hm, decide_true, Bool.not_false,
    Bool.and_true, Bool.and_false, Bool.or_false]

/-- `ldflags` (R470) pushes the flag bits. -/
theorem ldflags_pushes {s : State} (h : s.calm) : Pushes s .ldflags (s.r.status &&& flagMask) :=
  h.finish rfl rfl rfl rfl rfl

/-- `stflags` (R471) pops Areg into the flag bits; the bits that end an instruction stand outside FLAGMASK. -/
theorem exec_stflags {s : State} (h : s.calm) : exec .stflags s = .next { s with
    r := { s.r with status := (s.r.status &&& ~~~ flagMask) ||| (s.r.areg &&& flagMask) } }.pop1 :=
  h.finish_of_bits (bitOf_merge_of_not_mask (by decide) rfl) (bitOf_merge_of_not_mask (by decide) rfl)
    (bitOf_merge_of_not_mask (by decide) rfl) rfl rfl rfl rfl

/-- Settles O30: both instructions complete from a calm state, the mask being FLAGMASK. -/
theorem flagInstructions : Obligations.FlagInstructions := fun s h =>
  ⟨ldflags_pushes h, s.drawn 0, s.draws + 1, exec_stflags h⟩

end Sys2Proof.Machine
end

section
/-! The floating-point stack, the rounding mode and the class tests (46_floating_point_ops.md R530 to R535, R540, R541,
R569, R570): what class an entry is of, read off its fields, and what each instruction completes with. -/

namespace Sys2Proof.Machine

/-! ## The class of an entry (45_floating_point.md R510) -/

/-- The low bits of an entry's number are its fraction field. -/
theorem FpEntry.nat_mod_fracBits (x : FpEntry) : x.nat % 2 ^ fracBits x.dbl = x.fraction := by
  unfold FpEntry.nat FpEntry.fraction
  cases x.dbl with
  | false => exact Nat.mod_mod_of_dvd _ (Nat.pow_dvd_pow 2 (by decide))
  | true => rfl

/-- The bits above the fraction are the exponent field. -/
theorem FpEntry.nat_div_fracBits_mod (x : FpEntry) :
    x.nat / 2 ^ fracBits x.dbl % 2 ^ expBits x.dbl = x.exponent := by
  unfold FpEntry.nat FpEntry.exponent
  cases x.dbl with
  | false =>
    change x.bits.toNat % 2 ^ 32 / 2 ^ 23 % 2 ^ 8 = x.bits.toNat / 2 ^ 23 % 2 ^ 8
    omega
  | true => rfl

theorem FpEntry.special_iff (x : FpEntry) : x.special = true ↔ x.exponent = 2 ^ expBits x.dbl - 1 := by
  rw [FpEntry.special, beq_iff_eq]
  cases x.dbl with
  | false => rfl
  | true => rfl

/-- The value of an entry by its class and its fields. -/
theorem FpEntry.val_eq (x : FpEntry) : x.val =
    if x.special then if x.fraction = 0 then .inf x.neg else .nan (!x.fraction.testBit (fracBits x.dbl - 1))
    else if x.exponent = 0 then .num x.neg x.fraction (ulpMin x.dbl)
    else .num x.neg (2 ^ fracBits x.dbl + x.fraction) (ulpMin x.dbl + (x.exponent - 1 : Nat)) := by
  simp only [FpEntry.val, x.nat_mod_fracBits, x.nat_div_fracBits_mod, x.special_iff]

/-- The model's test for a NaN or an infinity is the exponent's. -/
theorem FpEntry.notFinite_val (x : FpEntry) : x.val.notFinite = x.special := by
  rw [x.val_eq]
  cases x.special with
  | false =>
    rw [if_neg Bool.false_ne_true]
    split <;> rfl
  | true =>
    rw [if_pos rfl]
    split <;> rfl

/-- The model's test for a NaN is the one on the fields. -/
theorem FpEntry.isNaN_val (x : FpEntry) : x.val.isNaN = x.nan := by
  rw [x.val_eq, FpEntry.nan]
  cases x.special with
  | false =>
    rw [if_neg Bool.false_ne_true]
    split <;> rfl
  | true =>
    rw [if_pos rfl]
    split
    case isTrue hzero => rw [hzero]; rfl
    case isFalse hne => rw [bne_iff_ne.mpr hne]; rfl

/-! ## What the instructions complete with -/

/-- An instruction that ends by pushing `e` with the mode back at nearest completes so from a calm state. -/
theorem State.calm.fpush_nearest {s : State} {i : Instr} {e : FpEntry} (h : s.calm)
    (hi : exec i s = s.finish (s.fpush e).nearest) : exec i s = .next { s with
      r := { s.r with fpA := e, fpB := s.r.fpA, fpC := s.r.fpB, round := 1#2 } } :=
  hi.trans (h.finish rfl rfl rfl rfl rfl)

/-- A setter completes from a calm state with its mode set. -/
theorem State.calm.setRound {s : State} {i : Instr} {m : BitVec 2} (h : s.calm)
    (hi : exec i s = s.finish (s.setRound m)) : exec i s = .next { s with r := { s.r with round := m } } :=
  hi.trans (h.finish rfl rfl rfl rfl rfl)

/-- An instruction that ends by pushing the truth of `c` with the mode back at nearest completes so from a calm
state. -/
theorem State.calm.push_boolWord_nearest {s : State} {i : Instr} {c : Bool} (h : s.calm)
    (hi : exec i s = s.finish (s.push (boolWord c)).nearest) : exec i s = .next { s with
      r := { s.r with areg := if c then 1#32 else 0#32, breg := s.r.areg, creg := s.r.breg, round := 1#2 } } :=
  hi.trans (h.finish rfl rfl rfl rfl rfl)

/-- `fprev` (R531) exchanges FPAreg and FPBreg. -/
theorem exec_fprev {s : State} (h : s.calm) : exec .fprev s = .next { s with
    r := { s.r with fpA := s.r.fpB, fpB := s.r.fpA, round := 1#2 } } :=
  h.finish rfl rfl rfl rfl rfl

theorem exec_fpnan (s : State) : exec .fpnan s = s.finish (s.push (boolWord s.r.fpA.nan)).nearest := by
  rw [← s.r.fpA.isNaN_val]
  rfl

theorem exec_fpnotfinite (s : State) :
    exec .fpnotfinite s = s.finish (s.push (boolWord s.r.fpA.special)).nearest := by
  rw [← s.r.fpA.notFinite_val]
  rfl

/-- Settles O47: each instruction completes from a calm state as its rule says, and the tests read the class of FPAreg
off its fields. -/
theorem fpStackAndMode : Obligations.FpStackAndMode := fun s h =>
  ⟨h.fpush_nearest rfl, h.fpush_nearest rfl, h.fpush_nearest rfl, exec_fprev h, h.setRound rfl, h.setRound rfl,
    h.setRound rfl, h.setRound rfl, h.push_boolWord_nearest (exec_fpnan s),
    h.push_boolWord_nearest (exec_fpnotfinite s)⟩

end Sys2Proof.Machine
end
